-- ==== Sys2Proof/Word.lean ====
section
/-! DEFINITION. The two widths of the hardware (spec/00_scope.md R7): bytes and 16-bit words. -/

namespace Sys2Proof

/-- An 8-bit value: a data register, a memory byte, a port byte (R7). -/
abbrev Byte := BitVec 8

/-- A 16-bit value: a register pair, IX, IY, SP, PC, a memory or port address (R7). Arithmetic on it
wraps modulo 2^16 (R12, R52). -/
abbrev Word := BitVec 16

end Sys2Proof
end

