-- ==== Sys2Proof/Config.lean ====
section
/-! DEFINITION. What an implementation fixes (the named parameters of spec/00_scope.md R9) as types, and the free value
that no proof can see. The parameters' default values are definitions of Machine/Params.lean; the
parameters themselves are plain data in State (notes/assumptions/3.md). -/

namespace Sys2Proof

/-- `UNDOC_OPCODES` (R9, D2): whether the undocumented forms execute or are unrecognized opcodes. -/
inductive UndocOpcodes where
  | z80 | unknown
deriving DecidableEq, Repr

/-- `ED_HOLES` (R9, D3): what an ED opcode that no instruction occupies does. -/
inductive EdHoles where
  | unknown | nop
deriving DecidableEq, Repr

/-- `BLOCK_IO` (R9, D4): whether the block I/O group is recognized. -/
inductive BlockIo where
  | z80 | unknown
deriving DecidableEq, Repr

/-- `INT_VECTOR_MODEL` (R9, D5): the targets of interrupt modes 0 and 2. -/
inductive IntVectorModel where
  | source | hardware
deriving DecidableEq, Repr

/-- `R_MODEL` (R9, D17): whether a program reads R's count or a fresh draw. -/
inductive RModel where
  | m1 | draw
deriving DecidableEq, Repr

/-- `INT_ACCEPT_COST` (R9, D7): the cycles charged when an interrupt of each kind is accepted. -/
structure AcceptCost where
  nmi : Nat
  im0 : Nat
  im1 : Nat
  im2 : Nat
deriving DecidableEq, Repr

/-- One entry of `CYCLE_COST` (R9, D8): the row of spec/opcode_table.json (its number, from 0), the form's cost and
its conditional extra (notes/assumptions/21.md). -/
structure CostEntry where
  row   : Nat
  base  : Nat
  extra : Nat
deriving DecidableEq, Repr

/-- The parameters of R9, all but the draw `INT_DATA_BUS`, which `Config.freeByte` supplies. -/
structure Params where
  undocOpcodes   : UndocOpcodes
  edHoles        : EdHoles
  blockIo        : BlockIo
  intVectorModel : IntVectorModel
  intAcceptCost  : AcceptCost
  /-- The entries in which `CYCLE_COST` differs from the default table of R256. -/
  cycleCost      : List CostEntry
  unmappedRead   : Byte
  rModel         : RModel
deriving DecidableEq, Repr

/-- A byte the environment supplies and the spec leaves open, a draw (D5, D17, D37). It has no body: nothing
can be proved of its value (notes/assumptions/8.md). -/
opaque Config.freeByte : Nat → Byte

end Sys2Proof
end

