-- ==== Sys2Proof/Machine/Bits.lean ====
section
/-! DEFINITION. Bit-field, sign-extension and byte-order helpers (spec/00_scope.md R12, R13) and the opcode
byte's fields (spec/30_encoding.md R67). -/

namespace Sys2Proof

/-- `v[15:8]` (R12): the first-named register of a pair is its high half (R16). -/
def hiByte (w : Word) : Byte := w.extractLsb' 8 8

/-- `v[7:0]` (R12). -/
def loByte (w : Word) : Byte := w.extractLsb' 0 8

/-- `hi:lo` (R12). -/
def mkWord (hi lo : Byte) : Word := hi ++ lo

/-- `sext_16(v)` (R12): the signed reading of a displacement or a relative offset (R78, R79). -/
def sext (v : Byte) : Word := v.signExtend 16

/-- `zext_16(v)` (R12). -/
def zext (v : Byte) : Word := v.zeroExtend 16

/-- `v[i]` of a byte (R12). -/
def bitAt (v : Byte) (i : Nat) : Bool := v.getLsbD i

/-- The field `x = op[7:6]` (R67). -/
def opX (op : Byte) : Nat := (op.extractLsb' 6 2).toNat

/-- The field `y = op[5:3]` (R67). -/
def opY (op : Byte) : BitVec 3 := op.extractLsb' 3 3

/-- The field `z = op[2:0]` (R67). -/
def opZ (op : Byte) : BitVec 3 := op.extractLsb' 0 3

/-- The field `p = op[5:4] = y[2:1]` (R67). -/
def opP (op : Byte) : BitVec 2 := op.extractLsb' 4 2

/-- The field `q = op[3] = y[0]` (R67). -/
def opQ (op : Byte) : Bool := op.getLsbD 3

/-- An opcode byte from its fields `x`, `y`, `z` (R67). -/
def opXYZ (x : BitVec 2) (y z : BitVec 3) : Byte := x ++ y ++ z

/-- An opcode byte from `x`, `p`, `q` and `z` (R67). -/
def opXPQZ (x p : BitVec 2) (q : BitVec 1) (z : BitVec 3) : Byte := x ++ p ++ q ++ z

end Sys2Proof
end

