-- ==== Sys2Proof/Syntax.lean ====
section
/-! DEFINITION. The instruction set's syntax: operand fields (spec/30_encoding.md R68 to R79) and ONE inductive with one
constructor per row of spec/opcode_table.json, in the table's order. Each constructor's comment gives the
row's number, its name in the spec and its rule. A row's opcode mirrors and undocumented forms are
constructors too; the parameters of R9 decide when they are recognized (Decode.lean, `Instr.recognized`). -/

namespace Sys2Proof

/-- The 8-bit registers the 3-bit field names (R68). Code 6 is never a register, so it has no name here. -/
inductive Reg8 where
  | b | c | d | e | h | l | a
deriving DecidableEq, Repr

/-- The pairs of the field `p` through `rp` (R69). -/
inductive Pair where
  | bc | de | hl | sp
deriving DecidableEq, Repr

/-- The pairs of `rp` under a DD or FD prefix: code 2 is the active index register XY (R69, R86). -/
inductive XyPair where
  | bc | de | xy | sp
deriving DecidableEq, Repr

/-- The pairs of the field `p` through `rp2` (R70). -/
inductive StackPair where
  | bc | de | hl | af
deriving DecidableEq, Repr

/-- The conditions of the field `c` (R71). -/
inductive Cond where
  | nz | z | nc | c | po | pe | p | m
deriving DecidableEq, Repr

/-- The four conditions of `JR cc` (R71). -/
inductive JrCond where
  | nz | z | nc | c
deriving DecidableEq, Repr

/-- The index register a DD (IX) or FD (IY) prefix selects (R67, R85). -/
inductive Idx where
  | ix | iy
deriving DecidableEq, Repr

/-- A half of an index register: XYH = `XY[15:8]`, XYL = `XY[7:0]` (R89). -/
inductive Half where
  | hi | lo
deriving DecidableEq, Repr

/-- The sources of `LD XYH/XYL,s`: codes 4 and 5 name the halves of the same index register (R89, R147). -/
inductive HalfSrc where
  | b | c | d | e | xyh | xyl | a
deriving DecidableEq, Repr

/-- The opcode tables (R65), by the names diagnostic events use (R225). -/
inductive OpTable where
  | base | cb | ed | dd | fd | ddcb | fdcb
deriving DecidableEq, Repr

/-- One constructor per row of spec/opcode_table.json. `n`, `nn` are immediates (R76, R77), `e` a relative offset
(R78), `d` a displacement (R79), `b` a bit number, `t` a restart field (R74), `y` the field of a mirror
opcode, `o` an opcode byte. -/
inductive Instr where
  /-- 0: `NOP`, R216. -/
  | nop
  /-- 1: `LD rp,nn`, R163. -/
  | ldRpNn (p : Pair) (nn : Word)
  /-- 2: `LD (BC),A`, R156. -/
  | ldMBcA
  /-- 3: `LD (DE),A`, R157. -/
  | ldMDeA
  /-- 4: `LD (nn),HL`, R165. -/
  | ldMNnHl (nn : Word)
  /-- 5: `LD (nn),A`, R158. -/
  | ldMNnA (nn : Word)
  /-- 6: `LD A,(BC)`, R153. -/
  | ldAMBc
  /-- 7: `LD A,(DE)`, R154. -/
  | ldAMDe
  /-- 8: `LD HL,(nn)`, R164. -/
  | ldHlMNn (nn : Word)
  /-- 9: `LD A,(nn)`, R155. -/
  | ldAMNn (nn : Word)
  /-- 10: `INC rp`, R145. -/
  | incRp (p : Pair)
  /-- 11: `DEC rp`, R146. -/
  | decRp (p : Pair)
  /-- 12: `INC r`, R116. -/
  | incR (r : Reg8)
  /-- 13: `INC (HL)`, R116. -/
  | incMHl
  /-- 14: `DEC r`, R117. -/
  | decR (r : Reg8)
  /-- 15: `DEC (HL)`, R117. -/
  | decMHl
  /-- 16: `LD r,n`, R149. -/
  | ldRN (r : Reg8) (n : Byte)
  /-- 17: `LD (HL),n`, R152. -/
  | ldMHlN (n : Byte)
  /-- 18: `RLCA`, R122. -/
  | rlca
  /-- 19: `RRCA`, R123. -/
  | rrca
  /-- 20: `RLA`, R124. -/
  | rla
  /-- 21: `RRA`, R125. -/
  | rra
  /-- 22: `DAA`, R118. -/
  | daa
  /-- 23: `CPL`, R119. -/
  | cpl
  /-- 24: `SCF`, R120. -/
  | scf
  /-- 25: `CCF`, R121. -/
  | ccf
  /-- 26: `EX AF,AF'`, R172. -/
  | exAfAf
  /-- 27: `DJNZ e`, R202. -/
  | djnz (e : Byte)
  /-- 28: `JR e`, R200. -/
  | jr (e : Byte)
  /-- 29: `JR cc,e`, R201. -/
  | jrCc (cc : JrCond) (e : Byte)
  /-- 30: `ADD HL,rp`, R142. -/
  | addHlRp (p : Pair)
  /-- 31: `LD r,r'`, R148. -/
  | ldRR (r s : Reg8)
  /-- 32: `LD r,(HL)`, R150. -/
  | ldRMHl (r : Reg8)
  /-- 33: `LD (HL),r`, R151. -/
  | ldMHlR (s : Reg8)
  /-- 34: `HALT`, R217. -/
  | halt
  /-- 35: `ADD A,r`, R107. -/
  | addAR (s : Reg8)
  /-- 36: `ADD A,(HL)`, R107. -/
  | addAMHl
  /-- 37: `ADD A,n`, R107. -/
  | addAN (n : Byte)
  /-- 38: `ADC A,r`, R108. -/
  | adcAR (s : Reg8)
  /-- 39: `ADC A,(HL)`, R108. -/
  | adcAMHl
  /-- 40: `ADC A,n`, R108. -/
  | adcAN (n : Byte)
  /-- 41: `SUB r`, R109. -/
  | subR (s : Reg8)
  /-- 42: `SUB (HL)`, R109. -/
  | subMHl
  /-- 43: `SUB n`, R109. -/
  | subN (n : Byte)
  /-- 44: `SBC A,r`, R110. -/
  | sbcAR (s : Reg8)
  /-- 45: `SBC A,(HL)`, R110. -/
  | sbcAMHl
  /-- 46: `SBC A,n`, R110. -/
  | sbcAN (n : Byte)
  /-- 47: `AND r`, R113. -/
  | andR (s : Reg8)
  /-- 48: `AND (HL)`, R113. -/
  | andMHl
  /-- 49: `AND n`, R113. -/
  | andN (n : Byte)
  /-- 50: `XOR r`, R114. -/
  | xorR (s : Reg8)
  /-- 51: `XOR (HL)`, R114. -/
  | xorMHl
  /-- 52: `XOR n`, R114. -/
  | xorN (n : Byte)
  /-- 53: `OR r`, R115. -/
  | orR (s : Reg8)
  /-- 54: `OR (HL)`, R115. -/
  | orMHl
  /-- 55: `OR n`, R115. -/
  | orN (n : Byte)
  /-- 56: `CP r`, R111. -/
  | cpR (s : Reg8)
  /-- 57: `CP (HL)`, R111. -/
  | cpMHl
  /-- 58: `CP n`, R111. -/
  | cpN (n : Byte)
  /-- 59: `RET cc`, R207. -/
  | retCc (cc : Cond)
  /-- 60: `POP qq`, R170. -/
  | popQq (p : StackPair)
  /-- 61: `RET`, R206. -/
  | ret
  /-- 62: `EXX`, R173. -/
  | exx
  /-- 63: `JP (HL)`, R199. -/
  | jpHl
  /-- 64: `LD SP,HL`, R168. -/
  | ldSpHl
  /-- 65: `JP cc,nn`, R198. -/
  | jpCcNn (cc : Cond) (nn : Word)
  /-- 66: `JP nn`, R197. -/
  | jpNn (nn : Word)
  /-- 67: `OUT (n),A`, R211. -/
  | outNA (n : Byte)
  /-- 68: `IN A,(n)`, R210. -/
  | inAN (n : Byte)
  /-- 69: `EX (SP),HL`, R174. -/
  | exMSpHl
  /-- 70: `EX DE,HL`, R171. -/
  | exDeHl
  /-- 71: `DI`, R218. -/
  | di
  /-- 72: `EI`, R219. -/
  | ei
  /-- 73: `CALL cc,nn`, R204. -/
  | callCcNn (cc : Cond) (nn : Word)
  /-- 74: `PUSH qq`, R169. -/
  | pushQq (p : StackPair)
  /-- 75: `CALL nn`, R203. -/
  | callNn (nn : Word)
  /-- 76: `RST p`, R205. -/
  | rst (t : BitVec 3)
  /-- 77: `prefix CB`, R83. -/
  | prefixCb
  /-- 78: `prefix ED`, R83. -/
  | prefixEd
  /-- 79: `prefix DD`, R83. -/
  | prefixDd
  /-- 80: `prefix FD`, R83. -/
  | prefixFd
  /-- 81: `RLC r`, R128. -/
  | rlcR (s : Reg8)
  /-- 82: `RLC (HL)`, R128. -/
  | rlcMHl
  /-- 83: `RRC r`, R129. -/
  | rrcR (s : Reg8)
  /-- 84: `RRC (HL)`, R129. -/
  | rrcMHl
  /-- 85: `RL r`, R130. -/
  | rlR (s : Reg8)
  /-- 86: `RL (HL)`, R130. -/
  | rlMHl
  /-- 87: `RR r`, R131. -/
  | rrR (s : Reg8)
  /-- 88: `RR (HL)`, R131. -/
  | rrMHl
  /-- 89: `SLA r`, R132. -/
  | slaR (s : Reg8)
  /-- 90: `SLA (HL)`, R132. -/
  | slaMHl
  /-- 91: `SRA r`, R133. -/
  | sraR (s : Reg8)
  /-- 92: `SRA (HL)`, R133. -/
  | sraMHl
  /-- 93: `SLL r`, R134. -/
  | sllR (s : Reg8)
  /-- 94: `SLL (HL)`, R134. -/
  | sllMHl
  /-- 95: `SRL r`, R135. -/
  | srlR (s : Reg8)
  /-- 96: `SRL (HL)`, R135. -/
  | srlMHl
  /-- 97: `BIT b,r`, R136. -/
  | bitBR (b : BitVec 3) (s : Reg8)
  /-- 98: `BIT b,(HL)`, R136. -/
  | bitBMHl (b : BitVec 3)
  /-- 99: `RES b,r`, R137. -/
  | resBR (b : BitVec 3) (s : Reg8)
  /-- 100: `RES b,(HL)`, R137. -/
  | resBMHl (b : BitVec 3)
  /-- 101: `SET b,r`, R138. -/
  | setBR (b : BitVec 3) (s : Reg8)
  /-- 102: `SET b,(HL)`, R138. -/
  | setBMHl (b : BitVec 3)
  /-- 103: `IN r,(C)`, R212. -/
  | inRC (r : Reg8)
  /-- 104: `IN (C)`, R213. -/
  | inC
  /-- 105: `OUT (C),r`, R214. -/
  | outCR (r : Reg8)
  /-- 106: `OUT (C),0`, R215. -/
  | outC0
  /-- 107: `SBC HL,rp`, R144. -/
  | sbcHlRp (p : Pair)
  /-- 108: `ADC HL,rp`, R143. -/
  | adcHlRp (p : Pair)
  /-- 109: `LD (nn),rp`, R167. -/
  | ldMNnRp (p : Pair) (nn : Word)
  /-- 110: `LD rp,(nn)`, R166. -/
  | ldRpMNn (p : Pair) (nn : Word)
  /-- 111: `NEG`, R112. -/
  | neg
  /-- 112: `NEG (mirror)`, R112. -/
  | negMirror (y : BitVec 3)
  /-- 113: `RETN`, R208. -/
  | retn
  /-- 114: `RETI`, R209. -/
  | reti
  /-- 115: `RETN (mirror)`, R208. -/
  | retnMirror (y : BitVec 3)
  /-- 116: `IM 0`, R220. -/
  | im0
  /-- 117: `IM 1`, R221. -/
  | im1
  /-- 118: `IM 2`, R222. -/
  | im2
  /-- 119: `IM 0 (mirror)`, R220. -/
  | im0Mirror (y : BitVec 3)
  /-- 120: `IM 1 (mirror)`, R221. -/
  | im1Mirror
  /-- 121: `IM 2 (mirror)`, R222. -/
  | im2Mirror
  /-- 122: `LD I,A`, R159. -/
  | ldIA
  /-- 123: `LD R,A`, R160. -/
  | ldRA
  /-- 124: `LD A,I`, R161. -/
  | ldAI
  /-- 125: `LD A,R`, R162. -/
  | ldAR
  /-- 126: `RRD`, R140. -/
  | rrd
  /-- 127: `RLD`, R139. -/
  | rld
  /-- 128: `LDI`, R178. -/
  | ldi
  /-- 129: `LDD`, R179. -/
  | ldd
  /-- 130: `LDIR`, R180. -/
  | ldir
  /-- 131: `LDDR`, R181. -/
  | lddr
  /-- 132: `CPI`, R183. -/
  | cpi
  /-- 133: `CPD`, R184. -/
  | cpd
  /-- 134: `CPIR`, R185. -/
  | cpir
  /-- 135: `CPDR`, R186. -/
  | cpdr
  /-- 136: `INI`, R189. -/
  | ini
  /-- 137: `IND`, R190. -/
  | ind
  /-- 138: `INIR`, R191. -/
  | inir
  /-- 139: `INDR`, R192. -/
  | indr
  /-- 140: `OUTI`, R193. -/
  | outi
  /-- 141: `OUTD`, R194. -/
  | outd
  /-- 142: `OTIR`, R195. -/
  | otir
  /-- 143: `OTDR`, R196. -/
  | otdr
  /-- 144: `ED hole`, R94. -/
  | edHole (o : Byte)
  /-- 145: `ADD XY,rp`, R142. -/
  | addXyRp (x : Idx) (p : XyPair)
  /-- 146: `LD XY,nn`, R163. -/
  | ldXyNn (x : Idx) (nn : Word)
  /-- 147: `LD (nn),XY`, R165. -/
  | ldMNnXy (x : Idx) (nn : Word)
  /-- 148: `LD XY,(nn)`, R164. -/
  | ldXyMNn (x : Idx) (nn : Word)
  /-- 149: `INC XY`, R145. -/
  | incXy (x : Idx)
  /-- 150: `DEC XY`, R146. -/
  | decXy (x : Idx)
  /-- 151: `INC (XY+d)`, R116. -/
  | incMXy (x : Idx) (d : Byte)
  /-- 152: `DEC (XY+d)`, R117. -/
  | decMXy (x : Idx) (d : Byte)
  /-- 153: `LD (XY+d),n`, R152. -/
  | ldMXyN (x : Idx) (d n : Byte)
  /-- 154: `LD r,(XY+d)`, R150. -/
  | ldRMXy (x : Idx) (r : Reg8) (d : Byte)
  /-- 155: `LD (XY+d),r`, R151. -/
  | ldMXyR (x : Idx) (d : Byte) (s : Reg8)
  /-- 156: `ADD A,(XY+d)`, R107. -/
  | addAMXy (x : Idx) (d : Byte)
  /-- 157: `ADC A,(XY+d)`, R108. -/
  | adcAMXy (x : Idx) (d : Byte)
  /-- 158: `SUB (XY+d)`, R109. -/
  | subMXy (x : Idx) (d : Byte)
  /-- 159: `SBC A,(XY+d)`, R110. -/
  | sbcAMXy (x : Idx) (d : Byte)
  /-- 160: `AND (XY+d)`, R113. -/
  | andMXy (x : Idx) (d : Byte)
  /-- 161: `XOR (XY+d)`, R114. -/
  | xorMXy (x : Idx) (d : Byte)
  /-- 162: `OR (XY+d)`, R115. -/
  | orMXy (x : Idx) (d : Byte)
  /-- 163: `CP (XY+d)`, R111. -/
  | cpMXy (x : Idx) (d : Byte)
  /-- 164: `POP XY`, R170. -/
  | popXy (x : Idx)
  /-- 165: `PUSH XY`, R169. -/
  | pushXy (x : Idx)
  /-- 166: `EX (SP),XY`, R174. -/
  | exMSpXy (x : Idx)
  /-- 167: `JP (XY)`, R199. -/
  | jpXy (x : Idx)
  /-- 168: `LD SP,XY`, R168. -/
  | ldSpXy (x : Idx)
  /-- 169: `INC XYH/XYL`, R116. -/
  | incXyHalf (x : Idx) (h : Half)
  /-- 170: `DEC XYH/XYL`, R117. -/
  | decXyHalf (x : Idx) (h : Half)
  /-- 171: `LD XYH/XYL,n`, R149. -/
  | ldXyHalfN (x : Idx) (h : Half) (n : Byte)
  /-- 172: `LD r,XYH/XYL`, R148. -/
  | ldRXyHalf (x : Idx) (r : Reg8) (h : Half)
  /-- 173: `LD XYH/XYL,s`, R148. -/
  | ldXyHalfS (x : Idx) (h : Half) (s : HalfSrc)
  /-- 174: `ADD A,XYH/XYL`, R107. -/
  | addAXyHalf (x : Idx) (h : Half)
  /-- 175: `ADC A,XYH/XYL`, R108. -/
  | adcAXyHalf (x : Idx) (h : Half)
  /-- 176: `SUB XYH/XYL`, R109. -/
  | subXyHalf (x : Idx) (h : Half)
  /-- 177: `SBC A,XYH/XYL`, R110. -/
  | sbcAXyHalf (x : Idx) (h : Half)
  /-- 178: `AND XYH/XYL`, R113. -/
  | andXyHalf (x : Idx) (h : Half)
  /-- 179: `XOR XYH/XYL`, R114. -/
  | xorXyHalf (x : Idx) (h : Half)
  /-- 180: `OR XYH/XYL`, R115. -/
  | orXyHalf (x : Idx) (h : Half)
  /-- 181: `CP XYH/XYL`, R111. -/
  | cpXyHalf (x : Idx) (h : Half)
  /-- 182: `XY prefix, HL not used`, R87. -/
  | xyPrefixHlNotUsed (x : Idx) (o : Byte)
  /-- 183: `XY prefix before ED`, R88. -/
  | xyPrefixBeforeEd (x : Idx)
  /-- 184: `RLC (XY+d)`, R128. -/
  | rlcMXy (x : Idx) (d : Byte)
  /-- 185: `RLC (XY+d),r`, R128. -/
  | rlcMXyR (x : Idx) (d : Byte) (s : Reg8)
  /-- 186: `RRC (XY+d)`, R129. -/
  | rrcMXy (x : Idx) (d : Byte)
  /-- 187: `RRC (XY+d),r`, R129. -/
  | rrcMXyR (x : Idx) (d : Byte) (s : Reg8)
  /-- 188: `RL (XY+d)`, R130. -/
  | rlMXy (x : Idx) (d : Byte)
  /-- 189: `RL (XY+d),r`, R130. -/
  | rlMXyR (x : Idx) (d : Byte) (s : Reg8)
  /-- 190: `RR (XY+d)`, R131. -/
  | rrMXy (x : Idx) (d : Byte)
  /-- 191: `RR (XY+d),r`, R131. -/
  | rrMXyR (x : Idx) (d : Byte) (s : Reg8)
  /-- 192: `SLA (XY+d)`, R132. -/
  | slaMXy (x : Idx) (d : Byte)
  /-- 193: `SLA (XY+d),r`, R132. -/
  | slaMXyR (x : Idx) (d : Byte) (s : Reg8)
  /-- 194: `SRA (XY+d)`, R133. -/
  | sraMXy (x : Idx) (d : Byte)
  /-- 195: `SRA (XY+d),r`, R133. -/
  | sraMXyR (x : Idx) (d : Byte) (s : Reg8)
  /-- 196: `SLL (XY+d)`, R134. -/
  | sllMXy (x : Idx) (d : Byte)
  /-- 197: `SLL (XY+d),r`, R134. -/
  | sllMXyR (x : Idx) (d : Byte) (s : Reg8)
  /-- 198: `SRL (XY+d)`, R135. -/
  | srlMXy (x : Idx) (d : Byte)
  /-- 199: `SRL (XY+d),r`, R135. -/
  | srlMXyR (x : Idx) (d : Byte) (s : Reg8)
  /-- 200: `BIT b,(XY+d)`, R136. -/
  | bitBMXy (x : Idx) (d : Byte) (b : BitVec 3)
  /-- 201: `BIT b,(XY+d) (mirror)`, R136. -/
  | bitBMXyMirror (x : Idx) (d : Byte) (b : BitVec 3) (s : Reg8)
  /-- 202: `RES b,(XY+d)`, R137. -/
  | resBMXy (x : Idx) (d : Byte) (b : BitVec 3)
  /-- 203: `RES b,(XY+d),r`, R137. -/
  | resBMXyR (x : Idx) (d : Byte) (b : BitVec 3) (s : Reg8)
  /-- 204: `SET b,(XY+d)`, R138. -/
  | setBMXy (x : Idx) (d : Byte) (b : BitVec 3)
  /-- 205: `SET b,(XY+d),r`, R138. -/
  | setBMXyR (x : Idx) (d : Byte) (b : BitVec 3) (s : Reg8)
deriving DecidableEq, Repr

end Sys2Proof
end

