-- ==== Sys2Proof/Machine/OpcodeMap.lean ====
section
/-! DEFINITION. Facts of the opcode map as functions: the operand-field codes (spec/30_encoding.md R68 to R71, R75), the
index-affected opcodes (R86), the defined ED opcodes (R93) and the prefix bytes (R65). -/

namespace Sys2Proof

/-- The register codes of `reg8` (R68). -/
def Reg8.code : Reg8 → BitVec 3
  | .b => 0 | .c => 1 | .d => 2 | .e => 3 | .h => 4 | .l => 5 | .a => 7

/-- `reg8` as a decoder; code 6 is the memory operand M, no register (R68). -/
def reg8Of (v : BitVec 3) : Option Reg8 :=
  match v.toNat with
  | 0 => some .b | 1 => some .c | 2 => some .d | 3 => some .e
  | 4 => some .h | 5 => some .l | 6 => none | _ => some .a

/-- The codes of `rp` (R69). -/
def Pair.code : Pair → BitVec 2
  | .bc => 0 | .de => 1 | .hl => 2 | .sp => 3

/-- `rp` as a decoder (R69). -/
def pairOf (v : BitVec 2) : Pair :=
  match v.toNat with
  | 0 => .bc | 1 => .de | 2 => .hl | _ => .sp

/-- The codes of `rp` under an index prefix (R69). -/
def XyPair.code : XyPair → BitVec 2
  | .bc => 0 | .de => 1 | .xy => 2 | .sp => 3

/-- `rp` under an index prefix as a decoder (R69). -/
def xyPairOf (v : BitVec 2) : XyPair :=
  match v.toNat with
  | 0 => .bc | 1 => .de | 2 => .xy | _ => .sp

/-- The codes of `rp2` (R70). -/
def StackPair.code : StackPair → BitVec 2
  | .bc => 0 | .de => 1 | .hl => 2 | .af => 3

/-- `rp2` as a decoder (R70). -/
def stackPairOf (v : BitVec 2) : StackPair :=
  match v.toNat with
  | 0 => .bc | 1 => .de | 2 => .hl | _ => .af

/-- The codes of `cc` (R71). -/
def Cond.code : Cond → BitVec 3
  | .nz => 0 | .z => 1 | .nc => 2 | .c => 3 | .po => 4 | .pe => 5 | .p => 6 | .m => 7

/-- `cc` as a decoder (R71). -/
def condOf (v : BitVec 3) : Cond :=
  match v.toNat with
  | 0 => .nz | 1 => .z | 2 => .nc | 3 => .c | 4 => .po | 5 => .pe | 6 => .p | _ => .m

/-- The codes of `JR cc`: `y = 4 + c` (R71). -/
def JrCond.code : JrCond → BitVec 3
  | .nz => 4 | .z => 5 | .nc => 6 | .c => 7

/-- The same condition among the eight (R71). -/
def JrCond.cond : JrCond → Cond
  | .nz => .nz | .z => .z | .nc => .nc | .c => .c

/-- The half a code's low bit names: 4 is XYH, 5 is XYL (R89). -/
def Half.bit : Half → BitVec 1
  | .hi => 0 | .lo => 1

/-- The code of a half in an 8-bit register field (R89). -/
def Half.code : Half → BitVec 3
  | .hi => 4 | .lo => 5

/-- A half from the low bit of its code (R89). -/
def halfOf (lo : Bool) : Half :=
  if lo then .lo else .hi

/-- The codes of the sources of `LD XYH/XYL,s` (R147). -/
def HalfSrc.code : HalfSrc → BitVec 3
  | .b => 0 | .c => 1 | .d => 2 | .e => 3 | .xyh => 4 | .xyl => 5 | .a => 7

/-- The sources of `LD XYH/XYL,s` as a decoder (R147). -/
def halfSrcOf (v : BitVec 3) : Option HalfSrc :=
  match v.toNat with
  | 0 => some .b | 1 => some .c | 2 => some .d | 3 => some .e
  | 4 => some .xyh | 5 => some .xyl | 6 => none | _ => some .a

/-- The byte of an index prefix: DD is IX, FD is IY (R67). -/
def Idx.byte : Idx → Byte
  | .ix => 0xDD#8 | .iy => 0xFD#8

/-- The table an unknown DD or FD opcode is reported in (R225). -/
def Idx.table : Idx → OpTable
  | .ix => .dd | .iy => .fd

/-- The table an unknown DDCB or FDCB opcode is reported in (R225). -/
def Idx.cbTable : Idx → OpTable
  | .ix => .ddcb | .iy => .fdcb

/-- The four prefix bytes (R65). -/
def isPrefixByte (o : Byte) : Bool :=
  o == 0xCB#8 || o == 0xDD#8 || o == 0xED#8 || o == 0xFD#8

/-- First list of R86: HL as a 16-bit operand becomes XY. -/
def indexPair (o : Byte) : Bool :=
  o == 0x21#8 || o == 0x22#8 || o == 0x2A#8 || o == 0x23#8 || o == 0x2B#8 ||
  o == 0x09#8 || o == 0x19#8 || o == 0x29#8 || o == 0x39#8 ||
  o == 0xE1#8 || o == 0xE5#8 || o == 0xE3#8 || o == 0xE9#8 || o == 0xF9#8

/-- Second list of R86: the memory operand (HL) becomes (XY+d). HALT (76) is not in it. -/
def indexMem (o : Byte) : Bool :=
  o == 0x34#8 || o == 0x35#8 || o == 0x36#8 ||
  (opX o == 1 && ((opY o == 6#3) != (opZ o == 6#3))) ||
  (opX o == 2 && opZ o == 6#3)

/-- Third list of R86: H and L become the halves of XY. -/
def indexHalf (o : Byte) : Bool :=
  o == 0x24#8 || o == 0x25#8 || o == 0x26#8 || o == 0x2C#8 || o == 0x2D#8 || o == 0x2E#8 ||
  (opX o == 1 && opY o != 6#3 && opZ o != 6#3 &&
    (opY o == 4#3 || opY o == 5#3 || opZ o == 4#3 || opZ o == 5#3)) ||
  (opX o == 2 && (opZ o == 4#3 || opZ o == 5#3))

/-- The index-affected base opcodes (R86). -/
def indexAffected (o : Byte) : Bool :=
  indexPair o || indexMem o || indexHalf o

/-- The ED opcodes that an instruction occupies (R93): rows 4 to 7 without 77 and 7F, and in rows A and B the
columns 0 to 3 and 8 to B. Every other one is a hole. -/
def edDefined (o : Byte) : Bool :=
  (opX o == 1 && o != 0x77#8 && o != 0x7F#8) || (o.extractLsb' 5 3 == 5#3 && !bitAt o 2)

end Sys2Proof
end

