-- ==== Sys2Proof/WellFormed.lean ====
section
/-! DEFINITION. Which terms of Instr are instructions: the constraints of spec/opcode_table.json that the operand
types do not carry already. -/

namespace Sys2Proof

/-- The table's constraints on a row's fields:
* `NEG (mirror)`: y is not 0 (R93);
* `RETN (mirror)`: y is neither 0 (RETN) nor 1 (RETI) (R93);
* `IM 0 (mirror)`: y is 1, 4 or 5 (R75, R93);
* `ED hole`: the opcode is no defined ED opcode (R93);
* `LD r,XYH/XYL`: r is B, C, D, E or A (R95);
* `XY prefix, HL not used`: the opcode is neither index-affected nor a prefix (R86, R87).
Every other constructor's fields hold only values its row admits. -/
def Instr.wf : Instr → Bool
  | .negMirror y => y != 0#3
  | .retnMirror y => y != 0#3 && y != 1#3
  | .im0Mirror y => y == 1#3 || y == 4#3 || y == 5#3
  | .edHole o => !edDefined o
  | .ldRXyHalf _ r _ => r != .h && r != .l
  | .xyPrefixHlNotUsed _ o => !indexAffected o && !isPrefixByte o
  | _ => true

end Sys2Proof
end

