-- ==== Sys2Proof/Decode.lean ====
section
/-! DEFINITION. The decoder (spec/30_encoding.md R65 to R99): total on any list of bytes, giving the instruction at the
head of the list or an error by name. After it the encoder, written from the same encoding tables, and the
facts of an instruction that the fetch needs: its size (R99), its M1 fetches (R82), its table and opcode
byte (R97, R225) and whether the parameters recognize it (R97). -/

namespace Sys2Proof

/-- Why a list of bytes holds no instruction. -/
inductive DecodeError where
  /-- The list ends before the instruction does. No encoding is rejected for another reason: every complete
  byte sequence is an instruction, the holes of the ED table among them (R91 to R97). -/
  | bytesEnd
deriving DecidableEq, Repr

/-- What the decoder answers. -/
abbrev Decoded := Except DecodeError Instr

/-- An instruction with an 8-bit operand, the next byte (R76, R78, R79). -/
def withByte (rest : List Byte) (k : Byte → Instr) : Decoded :=
  match rest with
  | n :: _ => .ok (k n)
  | [] => .error .bytesEnd

/-- An instruction with a 16-bit operand, the next two bytes, low first (R77). -/
def withWord (rest : List Byte) (k : Word → Instr) : Decoded :=
  match rest with
  | lo :: hi :: _ => .ok (k (mkWord hi lo))
  | _ => .error .bytesEnd

/-- An 8-bit ALU instruction (R72) on one of the three unprefixed operand forms: a register (R105). -/
def aluReg (y : BitVec 3) (s : Reg8) : Instr :=
  match y.toNat with
  | 0 => .addAR s | 1 => .adcAR s | 2 => .subR s | 3 => .sbcAR s
  | 4 => .andR s | 5 => .xorR s | 6 => .orR s | _ => .cpR s

/-- The ALU field (R72) on `(HL)`. -/
def aluMHl (y : BitVec 3) : Instr :=
  match y.toNat with
  | 0 => .addAMHl | 1 => .adcAMHl | 2 => .subMHl | 3 => .sbcAMHl
  | 4 => .andMHl | 5 => .xorMHl | 6 => .orMHl | _ => .cpMHl

/-- The ALU field (R72) on an immediate. -/
def aluImm (y : BitVec 3) (n : Byte) : Instr :=
  match y.toNat with
  | 0 => .addAN n | 1 => .adcAN n | 2 => .subN n | 3 => .sbcAN n
  | 4 => .andN n | 5 => .xorN n | 6 => .orN n | _ => .cpN n

/-- The ALU field (R72) on `(XY+d)`. -/
def aluMXy (x : Idx) (y : BitVec 3) (d : Byte) : Instr :=
  match y.toNat with
  | 0 => .addAMXy x d | 1 => .adcAMXy x d | 2 => .subMXy x d | 3 => .sbcAMXy x d
  | 4 => .andMXy x d | 5 => .xorMXy x d | 6 => .orMXy x d | _ => .cpMXy x d

/-- The ALU field (R72) on a half of XY. -/
def aluXyHalf (x : Idx) (y : BitVec 3) (h : Half) : Instr :=
  match y.toNat with
  | 0 => .addAXyHalf x h | 1 => .adcAXyHalf x h | 2 => .subXyHalf x h | 3 => .sbcAXyHalf x h
  | 4 => .andXyHalf x h | 5 => .xorXyHalf x h | 6 => .orXyHalf x h | _ => .cpXyHalf x h

/-- Base opcodes with `x = 0` (R91, rows 0 to 3). -/
def decodeBase0 (op : Byte) (rest : List Byte) : Decoded :=
  match (opZ op).toNat with
  | 0 =>
    match (opY op).toNat with
    | 0 => .ok .nop
    | 1 => .ok .exAfAf
    | 2 => withByte rest .djnz
    | 3 => withByte rest .jr
    | 4 => withByte rest (.jrCc .nz)
    | 5 => withByte rest (.jrCc .z)
    | 6 => withByte rest (.jrCc .nc)
    | _ => withByte rest (.jrCc .c)
  | 1 => if opQ op then .ok (.addHlRp (pairOf (opP op))) else withWord rest (.ldRpNn (pairOf (opP op)))
  | 2 =>
    match (opY op).toNat with
    | 0 => .ok .ldMBcA
    | 1 => .ok .ldAMBc
    | 2 => .ok .ldMDeA
    | 3 => .ok .ldAMDe
    | 4 => withWord rest .ldMNnHl
    | 5 => withWord rest .ldHlMNn
    | 6 => withWord rest .ldMNnA
    | _ => withWord rest .ldAMNn
  | 3 => .ok (if opQ op then .decRp (pairOf (opP op)) else .incRp (pairOf (opP op)))
  | 4 =>
    match reg8Of (opY op) with
    | some r => .ok (.incR r)
    | none => .ok .incMHl
  | 5 =>
    match reg8Of (opY op) with
    | some r => .ok (.decR r)
    | none => .ok .decMHl
  | 6 =>
    match reg8Of (opY op) with
    | some r => withByte rest (.ldRN r)
    | none => withByte rest .ldMHlN
  | _ =>
    match (opY op).toNat with
    | 0 => .ok .rlca | 1 => .ok .rrca | 2 => .ok .rla | 3 => .ok .rra
    | 4 => .ok .daa | 5 => .ok .cpl | 6 => .ok .scf | _ => .ok .ccf

/-- Base opcodes with `x = 1` (R91, rows 4 to 7): the 8-bit loads and HALT (R147, R148). -/
def decodeBase1 (op : Byte) : Instr :=
  match reg8Of (opY op), reg8Of (opZ op) with
  | some r, some s => .ldRR r s
  | some r, none => .ldRMHl r
  | none, some s => .ldMHlR s
  | none, none => .halt

/-- Base opcodes with `x = 2` (R91, rows 8 to B): the 8-bit ALU operations (R72, R105). -/
def decodeBase2 (op : Byte) : Instr :=
  match reg8Of (opZ op) with
  | some s => aluReg (opY op) s
  | none => aluMHl (opY op)

/-- Base opcodes with `x = 3` (R91, rows C to F), the prefixes apart. -/
def decodeBase3 (op : Byte) (rest : List Byte) : Decoded :=
  match (opZ op).toNat with
  | 0 => .ok (.retCc (condOf (opY op)))
  | 1 =>
    if opQ op then
      match (opP op).toNat with
      | 0 => .ok .ret | 1 => .ok .exx | 2 => .ok .jpHl | _ => .ok .ldSpHl
    else .ok (.popQq (stackPairOf (opP op)))
  | 2 => withWord rest (.jpCcNn (condOf (opY op)))
  | 3 =>
    match (opY op).toNat with
    | 0 => withWord rest .jpNn
    | 1 => .ok .prefixCb
    | 2 => withByte rest .outNA
    | 3 => withByte rest .inAN
    | 4 => .ok .exMSpHl
    | 5 => .ok .exDeHl
    | 6 => .ok .di
    | _ => .ok .ei
  | 4 => withWord rest (.callCcNn (condOf (opY op)))
  | 5 =>
    if opQ op then
      match (opP op).toNat with
      | 0 => withWord rest .callNn | 1 => .ok .prefixDd | 2 => .ok .prefixEd | _ => .ok .prefixFd
    else .ok (.pushQq (stackPairOf (opP op)))
  | 6 => withByte rest (aluImm (opY op))
  | _ => .ok (.rst (opY op))

/-- The base table (R91): the form of an opcode byte that is no prefix. -/
def decodeBase (op : Byte) (rest : List Byte) : Decoded :=
  match opX op with
  | 0 => decodeBase0 op rest
  | 1 => .ok (decodeBase1 op)
  | 2 => .ok (decodeBase2 op)
  | _ => decodeBase3 op rest

/-- The shift field (R73) on a register. -/
def shiftReg (y : BitVec 3) (s : Reg8) : Instr :=
  match y.toNat with
  | 0 => .rlcR s | 1 => .rrcR s | 2 => .rlR s | 3 => .rrR s
  | 4 => .slaR s | 5 => .sraR s | 6 => .sllR s | _ => .srlR s

/-- The shift field (R73) on `(HL)`. -/
def shiftMHl (y : BitVec 3) : Instr :=
  match y.toNat with
  | 0 => .rlcMHl | 1 => .rrcMHl | 2 => .rlMHl | 3 => .rrMHl
  | 4 => .slaMHl | 5 => .sraMHl | 6 => .sllMHl | _ => .srlMHl

/-- The shift field (R73) on `(XY+d)`. -/
def shiftMXy (x : Idx) (d : Byte) (y : BitVec 3) : Instr :=
  match y.toNat with
  | 0 => .rlcMXy x d | 1 => .rrcMXy x d | 2 => .rlMXy x d | 3 => .rrMXy x d
  | 4 => .slaMXy x d | 5 => .sraMXy x d | 6 => .sllMXy x d | _ => .srlMXy x d

/-- The shift field (R73) on `(XY+d)` with a register copy (R90). -/
def shiftMXyR (x : Idx) (d : Byte) (y : BitVec 3) (s : Reg8) : Instr :=
  match y.toNat with
  | 0 => .rlcMXyR x d s | 1 => .rrcMXyR x d s | 2 => .rlMXyR x d s | 3 => .rrMXyR x d s
  | 4 => .slaMXyR x d s | 5 => .sraMXyR x d s | 6 => .sllMXyR x d s | _ => .srlMXyR x d s

/-- The CB table (R92). -/
def decodeCb (op : Byte) : Instr :=
  match reg8Of (opZ op) with
  | some s =>
    match opX op with
    | 0 => shiftReg (opY op) s
    | 1 => .bitBR (opY op) s
    | 2 => .resBR (opY op) s
    | _ => .setBR (opY op) s
  | none =>
    match opX op with
    | 0 => shiftMHl (opY op)
    | 1 => .bitBMHl (opY op)
    | 2 => .resBMHl (opY op)
    | _ => .setBMHl (opY op)

/-- The DDCB and FDCB tables (R90, R96). -/
def decodeXyCb (x : Idx) (d op : Byte) : Instr :=
  match reg8Of (opZ op) with
  | some s =>
    match opX op with
    | 0 => shiftMXyR x d (opY op) s
    | 1 => .bitBMXyMirror x d (opY op) s
    | 2 => .resBMXyR x d (opY op) s
    | _ => .setBMXyR x d (opY op) s
  | none =>
    match opX op with
    | 0 => shiftMXy x d (opY op)
    | 1 => .bitBMXy x d (opY op)
    | 2 => .resBMXy x d (opY op)
    | _ => .setBMXy x d (opY op)

/-- ED opcodes 40 to 7F (R93, rows 4 to 7). -/
def decodeEd1 (op : Byte) (rest : List Byte) : Decoded :=
  match (opZ op).toNat with
  | 0 =>
    match reg8Of (opY op) with
    | some r => .ok (.inRC r)
    | none => .ok .inC
  | 1 =>
    match reg8Of (opY op) with
    | some r => .ok (.outCR r)
    | none => .ok .outC0
  | 2 => .ok (if opQ op then .adcHlRp (pairOf (opP op)) else .sbcHlRp (pairOf (opP op)))
  | 3 =>
    if opQ op then withWord rest (.ldRpMNn (pairOf (opP op)))
    else withWord rest (.ldMNnRp (pairOf (opP op)))
  | 4 => .ok (if opY op == 0#3 then .neg else .negMirror (opY op))
  | 5 =>
    match (opY op).toNat with
    | 0 => .ok .retn
    | 1 => .ok .reti
    | _ => .ok (.retnMirror (opY op))
  | 6 =>
    match (opY op).toNat with
    | 0 => .ok .im0
    | 2 => .ok .im1
    | 3 => .ok .im2
    | 6 => .ok .im1Mirror
    | 7 => .ok .im2Mirror
    | _ => .ok (.im0Mirror (opY op))
  | _ =>
    match (opY op).toNat with
    | 0 => .ok .ldIA
    | 1 => .ok .ldRA
    | 2 => .ok .ldAI
    | 3 => .ok .ldAR
    | 4 => .ok .rrd
    | 5 => .ok .rld
    | _ => .ok (.edHole op)

/-- ED opcodes of rows A and B that are defined: `101rd0zz` (R93, R175). -/
def decodeEdBlock (op : Byte) : Instr :=
  match (op.extractLsb' 0 2).toNat, bitAt op 4, bitAt op 3 with
  | 0, false, false => .ldi
  | 0, false, true => .ldd
  | 0, true, false => .ldir
  | 0, true, true => .lddr
  | 1, false, false => .cpi
  | 1, false, true => .cpd
  | 1, true, false => .cpir
  | 1, true, true => .cpdr
  | 2, false, false => .ini
  | 2, false, true => .ind
  | 2, true, false => .inir
  | 2, true, true => .indr
  | _, false, false => .outi
  | _, false, true => .outd
  | _, true, false => .otir
  | _, true, true => .otdr

/-- The ED table (R93); an opcode no instruction occupies is a hole (R94). -/
def decodeEd (op : Byte) (rest : List Byte) : Decoded :=
  if edDefined op then
    if opX op == 1 then decodeEd1 op rest else .ok (decodeEdBlock op)
  else .ok (.edHole op)

/-- The instruction that is a DD or FD byte alone (R83, R84). -/
def prefixOf : Idx → Instr
  | .ix => .prefixDd
  | .iy => .prefixFd

/-- The index register of a DD or FD byte (R67). -/
def idxOf (o : Byte) : Option Idx :=
  if o == 0xDD#8 then some .ix else if o == 0xFD#8 then some .iy else none

/-- The index-affected forms of the DD and FD tables, CB apart (R86, R95). -/
def decodeXyOp (x : Idx) (op : Byte) (rest : List Byte) : Decoded :=
  match opX op with
  | 0 =>
    match (opZ op).toNat with
    | 1 => if opQ op then .ok (.addXyRp x (xyPairOf (opP op))) else withWord rest (.ldXyNn x)
    | 2 => if opQ op then withWord rest (.ldXyMNn x) else withWord rest (.ldMNnXy x)
    | 3 => .ok (if opQ op then .decXy x else .incXy x)
    | 4 => if opY op == 6#3 then withByte rest (.incMXy x) else .ok (.incXyHalf x (halfOf (opQ op)))
    | 5 => if opY op == 6#3 then withByte rest (.decMXy x) else .ok (.decXyHalf x (halfOf (opQ op)))
    | _ =>
      if opY op == 6#3 then
        match rest with
        | d :: n :: _ => .ok (.ldMXyN x d n)
        | _ => .error .bytesEnd
      else withByte rest (.ldXyHalfN x (halfOf (opQ op)))
  | 1 =>
    match reg8Of (opY op), reg8Of (opZ op) with
    | some r, none => withByte rest (.ldRMXy x r)
    | none, some s => withByte rest (.ldMXyR x · s)
    | _, _ =>
      if opY op == 4#3 || opY op == 5#3 then
        match halfSrcOf (opZ op) with
        | some s => .ok (.ldXyHalfS x (halfOf (opQ op)) s)
        | none => .ok (.xyPrefixHlNotUsed x op)
      else
        match reg8Of (opY op) with
        | some r => .ok (.ldRXyHalf x r (halfOf (bitAt op 0)))
        | none => .ok (.xyPrefixHlNotUsed x op)
  | 2 =>
    if opZ op == 6#3 then withByte rest (aluMXy x (opY op)) else .ok (aluXyHalf x (opY op) (halfOf (bitAt op 0)))
  | _ =>
    match (opZ op).toNat, opQ op with
    | 1, false => .ok (.popXy x)
    | 1, true => .ok (if opP op == 2#2 then .jpXy x else .ldSpXy x)
    | 3, _ => .ok (.exMSpXy x)
    | _, _ => .ok (.pushXy x)

/-- What follows a DD or FD byte (R83 to R90, R95). Another DD or FD makes this prefix redundant, ED makes it void,
and an opcode that does not use HL leaves it without effect: those prefix bytes are instructions of their
own, which the byte after them does not belong to (notes/assumptions/6.md). -/
def decodeXy (x : Idx) (rest : List Byte) : Decoded :=
  match rest with
  | [] => .ok (prefixOf x)
  | op :: rest' =>
    if (idxOf op).isSome then .ok (prefixOf x)
    else if op == 0xED#8 then .ok (.xyPrefixBeforeEd x)
    else if op == 0xCB#8 then
      match rest' with
      | d :: op2 :: _ => .ok (decodeXyCb x d op2)
      | _ => .error .bytesEnd
    else if indexAffected op then decodeXyOp x op rest'
    else .ok (.xyPrefixHlNotUsed x op)

/-- The instruction at the head of a list of bytes, the first at the lowest address (R65, R83, R99). A list that ends
right after a prefix byte holds that prefix. -/
def decode (bytes : List Byte) : Decoded :=
  match bytes with
  | [] => .error .bytesEnd
  | op :: rest =>
    if op == 0xCB#8 then
      match rest with
      | [] => .ok .prefixCb
      | op2 :: _ => .ok (decodeCb op2)
    else if op == 0xED#8 then
      match rest with
      | [] => .ok .prefixEd
      | op2 :: rest' => decodeEd op2 rest'
    else
      match idxOf op with
      | some x => decodeXy x rest
      | none => decodeBase op rest

/-- The two bytes of a 16-bit operand, low first (R77). -/
def wordBytes (nn : Word) : List Byte := [loByte nn, hiByte nn]

/-- The encoding of a DDCB or FDCB instruction: `P CB d op` (R66, R90). -/
def xyCbBytes (x : Idx) (d op : Byte) : List Byte := [x.byte, 0xCB#8, d, op]

/-- The bytes of an instruction, the first at the lowest address: the encodings of spec/opcode_table.json and of the
rules it names. Of a DD or FD byte that is an instruction of its own it gives the byte and the opcode that
makes it one, as the table's row does; that opcode belongs to the next instruction. -/
def encode : Instr → List Byte
  | .nop => [0x00#8]
  | .ldRpNn p nn => opXPQZ 0 p.code 0 1 :: wordBytes nn
  | .ldMBcA => [0x02#8]
  | .ldMDeA => [0x12#8]
  | .ldMNnHl nn => 0x22#8 :: wordBytes nn
  | .ldMNnA nn => 0x32#8 :: wordBytes nn
  | .ldAMBc => [0x0A#8]
  | .ldAMDe => [0x1A#8]
  | .ldHlMNn nn => 0x2A#8 :: wordBytes nn
  | .ldAMNn nn => 0x3A#8 :: wordBytes nn
  | .incRp p => [opXPQZ 0 p.code 0 3]
  | .decRp p => [opXPQZ 0 p.code 1 3]
  | .incR r => [opXYZ 0 r.code 4]
  | .incMHl => [0x34#8]
  | .decR r => [opXYZ 0 r.code 5]
  | .decMHl => [0x35#8]
  | .ldRN r n => [opXYZ 0 r.code 6, n]
  | .ldMHlN n => [0x36#8, n]
  | .rlca => [0x07#8]
  | .rrca => [0x0F#8]
  | .rla => [0x17#8]
  | .rra => [0x1F#8]
  | .daa => [0x27#8]
  | .cpl => [0x2F#8]
  | .scf => [0x37#8]
  | .ccf => [0x3F#8]
  | .exAfAf => [0x08#8]
  | .djnz e => [0x10#8, e]
  | .jr e => [0x18#8, e]
  | .jrCc cc e => [opXYZ 0 cc.code 0, e]
  | .addHlRp p => [opXPQZ 0 p.code 1 1]
  | .ldRR r s => [opXYZ 1 r.code s.code]
  | .ldRMHl r => [opXYZ 1 r.code 6]
  | .ldMHlR s => [opXYZ 1 6 s.code]
  | .halt => [0x76#8]
  | .addAR s => [opXYZ 2 0 s.code]
  | .addAMHl => [0x86#8]
  | .addAN n => [0xC6#8, n]
  | .adcAR s => [opXYZ 2 1 s.code]
  | .adcAMHl => [0x8E#8]
  | .adcAN n => [0xCE#8, n]
  | .subR s => [opXYZ 2 2 s.code]
  | .subMHl => [0x96#8]
  | .subN n => [0xD6#8, n]
  | .sbcAR s => [opXYZ 2 3 s.code]
  | .sbcAMHl => [0x9E#8]
  | .sbcAN n => [0xDE#8, n]
  | .andR s => [opXYZ 2 4 s.code]
  | .andMHl => [0xA6#8]
  | .andN n => [0xE6#8, n]
  | .xorR s => [opXYZ 2 5 s.code]
  | .xorMHl => [0xAE#8]
  | .xorN n => [0xEE#8, n]
  | .orR s => [opXYZ 2 6 s.code]
  | .orMHl => [0xB6#8]
  | .orN n => [0xF6#8, n]
  | .cpR s => [opXYZ 2 7 s.code]
  | .cpMHl => [0xBE#8]
  | .cpN n => [0xFE#8, n]
  | .retCc cc => [opXYZ 3 cc.code 0]
  | .popQq p => [opXPQZ 3 p.code 0 1]
  | .ret => [0xC9#8]
  | .exx => [0xD9#8]
  | .jpHl => [0xE9#8]
  | .ldSpHl => [0xF9#8]
  | .jpCcNn cc nn => opXYZ 3 cc.code 2 :: wordBytes nn
  | .jpNn nn => 0xC3#8 :: wordBytes nn
  | .outNA n => [0xD3#8, n]
  | .inAN n => [0xDB#8, n]
  | .exMSpHl => [0xE3#8]
  | .exDeHl => [0xEB#8]
  | .di => [0xF3#8]
  | .ei => [0xFB#8]
  | .callCcNn cc nn => opXYZ 3 cc.code 4 :: wordBytes nn
  | .pushQq p => [opXPQZ 3 p.code 0 5]
  | .callNn nn => 0xCD#8 :: wordBytes nn
  | .rst t => [opXYZ 3 t 7]
  | .prefixCb => [0xCB#8]
  | .prefixEd => [0xED#8]
  | .prefixDd => [0xDD#8]
  | .prefixFd => [0xFD#8]
  | .rlcR s => [0xCB#8, opXYZ 0 0 s.code]
  | .rlcMHl => [0xCB#8, 0x06#8]
  | .rrcR s => [0xCB#8, opXYZ 0 1 s.code]
  | .rrcMHl => [0xCB#8, 0x0E#8]
  | .rlR s => [0xCB#8, opXYZ 0 2 s.code]
  | .rlMHl => [0xCB#8, 0x16#8]
  | .rrR s => [0xCB#8, opXYZ 0 3 s.code]
  | .rrMHl => [0xCB#8, 0x1E#8]
  | .slaR s => [0xCB#8, opXYZ 0 4 s.code]
  | .slaMHl => [0xCB#8, 0x26#8]
  | .sraR s => [0xCB#8, opXYZ 0 5 s.code]
  | .sraMHl => [0xCB#8, 0x2E#8]
  | .sllR s => [0xCB#8, opXYZ 0 6 s.code]
  | .sllMHl => [0xCB#8, 0x36#8]
  | .srlR s => [0xCB#8, opXYZ 0 7 s.code]
  | .srlMHl => [0xCB#8, 0x3E#8]
  | .bitBR b s => [0xCB#8, opXYZ 1 b s.code]
  | .bitBMHl b => [0xCB#8, opXYZ 1 b 6]
  | .resBR b s => [0xCB#8, opXYZ 2 b s.code]
  | .resBMHl b => [0xCB#8, opXYZ 2 b 6]
  | .setBR b s => [0xCB#8, opXYZ 3 b s.code]
  | .setBMHl b => [0xCB#8, opXYZ 3 b 6]
  | .inRC r => [0xED#8, opXYZ 1 r.code 0]
  | .inC => [0xED#8, 0x70#8]
  | .outCR r => [0xED#8, opXYZ 1 r.code 1]
  | .outC0 => [0xED#8, 0x71#8]
  | .sbcHlRp p => [0xED#8, opXPQZ 1 p.code 0 2]
  | .adcHlRp p => [0xED#8, opXPQZ 1 p.code 1 2]
  | .ldMNnRp p nn => 0xED#8 :: opXPQZ 1 p.code 0 3 :: wordBytes nn
  | .ldRpMNn p nn => 0xED#8 :: opXPQZ 1 p.code 1 3 :: wordBytes nn
  | .neg => [0xED#8, 0x44#8]
  | .negMirror y => [0xED#8, opXYZ 1 y 4]
  | .retn => [0xED#8, 0x45#8]
  | .reti => [0xED#8, 0x4D#8]
  | .retnMirror y => [0xED#8, opXYZ 1 y 5]
  | .im0 => [0xED#8, 0x46#8]
  | .im1 => [0xED#8, 0x56#8]
  | .im2 => [0xED#8, 0x5E#8]
  | .im0Mirror y => [0xED#8, opXYZ 1 y 6]
  | .im1Mirror => [0xED#8, 0x76#8]
  | .im2Mirror => [0xED#8, 0x7E#8]
  | .ldIA => [0xED#8, 0x47#8]
  | .ldRA => [0xED#8, 0x4F#8]
  | .ldAI => [0xED#8, 0x57#8]
  | .ldAR => [0xED#8, 0x5F#8]
  | .rrd => [0xED#8, 0x67#8]
  | .rld => [0xED#8, 0x6F#8]
  | .ldi => [0xED#8, 0xA0#8]
  | .ldd => [0xED#8, 0xA8#8]
  | .ldir => [0xED#8, 0xB0#8]
  | .lddr => [0xED#8, 0xB8#8]
  | .cpi => [0xED#8, 0xA1#8]
  | .cpd => [0xED#8, 0xA9#8]
  | .cpir => [0xED#8, 0xB1#8]
  | .cpdr => [0xED#8, 0xB9#8]
  | .ini => [0xED#8, 0xA2#8]
  | .ind => [0xED#8, 0xAA#8]
  | .inir => [0xED#8, 0xB2#8]
  | .indr => [0xED#8, 0xBA#8]
  | .outi => [0xED#8, 0xA3#8]
  | .outd => [0xED#8, 0xAB#8]
  | .otir => [0xED#8, 0xB3#8]
  | .otdr => [0xED#8, 0xBB#8]
  | .edHole o => [0xED#8, o]
  | .addXyRp x p => [x.byte, opXPQZ 0 p.code 1 1]
  | .ldXyNn x nn => x.byte :: 0x21#8 :: wordBytes nn
  | .ldMNnXy x nn => x.byte :: 0x22#8 :: wordBytes nn
  | .ldXyMNn x nn => x.byte :: 0x2A#8 :: wordBytes nn
  | .incXy x => [x.byte, 0x23#8]
  | .decXy x => [x.byte, 0x2B#8]
  | .incMXy x d => [x.byte, 0x34#8, d]
  | .decMXy x d => [x.byte, 0x35#8, d]
  | .ldMXyN x d n => [x.byte, 0x36#8, d, n]
  | .ldRMXy x r d => [x.byte, opXYZ 1 r.code 6, d]
  | .ldMXyR x d s => [x.byte, opXYZ 1 6 s.code, d]
  | .addAMXy x d => [x.byte, 0x86#8, d]
  | .adcAMXy x d => [x.byte, 0x8E#8, d]
  | .subMXy x d => [x.byte, 0x96#8, d]
  | .sbcAMXy x d => [x.byte, 0x9E#8, d]
  | .andMXy x d => [x.byte, 0xA6#8, d]
  | .xorMXy x d => [x.byte, 0xAE#8, d]
  | .orMXy x d => [x.byte, 0xB6#8, d]
  | .cpMXy x d => [x.byte, 0xBE#8, d]
  | .popXy x => [x.byte, 0xE1#8]
  | .pushXy x => [x.byte, 0xE5#8]
  | .exMSpXy x => [x.byte, 0xE3#8]
  | .jpXy x => [x.byte, 0xE9#8]
  | .ldSpXy x => [x.byte, 0xF9#8]
  | .incXyHalf x h => [x.byte, opXPQZ 0 2 h.bit 4]
  | .decXyHalf x h => [x.byte, opXPQZ 0 2 h.bit 5]
  | .ldXyHalfN x h n => [x.byte, opXPQZ 0 2 h.bit 6, n]
  | .ldRXyHalf x r h => [x.byte, opXYZ 1 r.code h.code]
  | .ldXyHalfS x h s => [x.byte, opXYZ 1 h.code s.code]
  | .addAXyHalf x h => [x.byte, opXYZ 2 0 h.code]
  | .adcAXyHalf x h => [x.byte, opXYZ 2 1 h.code]
  | .subXyHalf x h => [x.byte, opXYZ 2 2 h.code]
  | .sbcAXyHalf x h => [x.byte, opXYZ 2 3 h.code]
  | .andXyHalf x h => [x.byte, opXYZ 2 4 h.code]
  | .xorXyHalf x h => [x.byte, opXYZ 2 5 h.code]
  | .orXyHalf x h => [x.byte, opXYZ 2 6 h.code]
  | .cpXyHalf x h => [x.byte, opXYZ 2 7 h.code]
  | .xyPrefixHlNotUsed x o => [x.byte, o]
  | .xyPrefixBeforeEd x => [x.byte, 0xED#8]
  | .rlcMXy x d => xyCbBytes x d 0x06#8
  | .rlcMXyR x d s => xyCbBytes x d (opXYZ 0 0 s.code)
  | .rrcMXy x d => xyCbBytes x d 0x0E#8
  | .rrcMXyR x d s => xyCbBytes x d (opXYZ 0 1 s.code)
  | .rlMXy x d => xyCbBytes x d 0x16#8
  | .rlMXyR x d s => xyCbBytes x d (opXYZ 0 2 s.code)
  | .rrMXy x d => xyCbBytes x d 0x1E#8
  | .rrMXyR x d s => xyCbBytes x d (opXYZ 0 3 s.code)
  | .slaMXy x d => xyCbBytes x d 0x26#8
  | .slaMXyR x d s => xyCbBytes x d (opXYZ 0 4 s.code)
  | .sraMXy x d => xyCbBytes x d 0x2E#8
  | .sraMXyR x d s => xyCbBytes x d (opXYZ 0 5 s.code)
  | .sllMXy x d => xyCbBytes x d 0x36#8
  | .sllMXyR x d s => xyCbBytes x d (opXYZ 0 6 s.code)
  | .srlMXy x d => xyCbBytes x d 0x3E#8
  | .srlMXyR x d s => xyCbBytes x d (opXYZ 0 7 s.code)
  | .bitBMXy x d b => xyCbBytes x d (opXYZ 1 b 6)
  | .bitBMXyMirror x d b s => xyCbBytes x d (opXYZ 1 b s.code)
  | .resBMXy x d b => xyCbBytes x d (opXYZ 2 b 6)
  | .resBMXyR x d b s => xyCbBytes x d (opXYZ 2 b s.code)
  | .setBMXy x d b => xyCbBytes x d (opXYZ 3 b 6)
  | .setBMXyR x d b s => xyCbBytes x d (opXYZ 3 b s.code)

/-- A prefix byte as an instruction of its own: no instruction boundary follows it (R83, R234). -/
def Instr.isPrefix : Instr → Bool
  | .prefixCb | .prefixEd | .prefixDd | .prefixFd => true
  | .xyPrefixHlNotUsed _ _ | .xyPrefixBeforeEd _ => true
  | _ => false

/-- The bytes an instruction consumes (R99): those of its encoding, and the prefix byte alone for a prefix. -/
def Instr.size (i : Instr) : Nat :=
  if i.isPrefix then 1 else (encode i).length

/-- The first byte of an instruction's encoding. -/
def Instr.firstByte (i : Instr) : Byte := (encode i).headD 0#8

/-- The table the opcode byte of an instruction is decoded in (R65, R83, R225). -/
def Instr.opTable (i : Instr) : OpTable :=
  let indexed (x : Idx) : OpTable :=
    if (encode i).getD 1 0#8 == 0xCB#8 then x.cbTable else x.table
  if i.isPrefix then .base
  else if i.firstByte == 0xCB#8 then .cb
  else if i.firstByte == 0xED#8 then .ed
  else match idxOf i.firstByte with
    | some x => indexed x
    | none => .base

/-- Where the opcode byte stands in the encoding (R66): first, after one prefix, or after `P CB d`. -/
def OpTable.opcodeAt : OpTable → Nat
  | .base => 0
  | .cb | .ed | .dd | .fd => 1
  | .ddcb | .fdcb => 3

/-- The opcode byte of an instruction (R67). -/
def Instr.opcode (i : Instr) : Byte := (encode i).getD i.opTable.opcodeAt 0#8

/-- The M1 fetches of an instruction (R82): its prefix bytes and its opcode byte, but not the opcode byte of a DDCB or
FDCB instruction. -/
def Instr.m1 (i : Instr) : Nat :=
  match i.opTable with
  | .base => 1
  | .cb | .ed | .dd | .fd | .ddcb | .fdcb => 2

/-- The DD and FD bytes of an instruction, each of which costs 4 cycles (R81). -/
def Instr.indexPrefixes (i : Instr) : Nat :=
  if (idxOf i.firstByte).isSome then 1 else 0

/-- Whether the parameters recognize an instruction; an unrecognized one raises UnknownOpcode (R97). -/
def Instr.recognized (p : Params) : Instr → Bool
  | .edHole _ => p.edHoles == .nop
  | .inC | .outC0 | .negMirror _ | .retnMirror _ | .im0Mirror _ | .im1Mirror | .im2Mirror =>
    p.undocOpcodes == .z80
  | .ini | .ind | .inir | .indr | .outi | .outd | .otir | .otdr => p.blockIo == .z80
  | .incXyHalf _ _ | .decXyHalf _ _ | .ldXyHalfN _ _ _ | .ldRXyHalf _ _ _ | .ldXyHalfS _ _ _ =>
    p.undocOpcodes == .z80
  | .addAXyHalf _ _ | .adcAXyHalf _ _ | .subXyHalf _ _ | .sbcAXyHalf _ _ => p.undocOpcodes == .z80
  | .andXyHalf _ _ | .xorXyHalf _ _ | .orXyHalf _ _ | .cpXyHalf _ _ => p.undocOpcodes == .z80
  | .rlcMXyR _ _ _ | .rrcMXyR _ _ _ | .rlMXyR _ _ _ | .rrMXyR _ _ _ => p.undocOpcodes == .z80
  | .slaMXyR _ _ _ | .sraMXyR _ _ _ | .sllMXyR _ _ _ | .srlMXyR _ _ _ => p.undocOpcodes == .z80
  | .bitBMXyMirror _ _ _ _ | .resBMXyR _ _ _ _ | .setBMXyR _ _ _ _ => p.undocOpcodes == .z80
  | _ => true

/-- The bytes the core consumes of an instruction under the parameters. An unknown opcode ends the instruction at once:
nothing after its opcode byte is fetched (R224). -/
def Instr.fetchSize (p : Params) (i : Instr) : Nat :=
  if i.recognized p then i.size else i.opTable.opcodeAt + 1

/-- The low `8 * n` bits of `w` as `n` bytes, the most significant first. -/
def bytesOf : Nat → Nat → List Byte
  | 0, _ => []
  | n + 1, w => BitVec.ofNat 8 (w >>> (8 * n)) :: bytesOf n w

/-- The bytes of a word as spec/opcode_table.json numbers its bits (notes/assumptions/14.md). The table writes a row's
encoding as one number whose FIRST byte is the most significant (CB 86 is 0xCB86). A number whose most
significant byte is no prefix while its least significant byte is one can only have been numbered from the
other end, and is read from there. -/
def tableBytes (nbits w : Nat) : List Byte :=
  let bs := bytesOf ((nbits + 7) / 8) w
  if 1 < bs.length && !isPrefixByte (bs.headD 0#8) && isPrefixByte (bs.getLastD 0#8) then bs.reverse else bs

/-- The decoder on a word of the opcode table: the word's own bytes, and zero bytes after them where the instruction
needs more. -/
def decodeTableWord (nbits w : Nat) : Option Instr :=
  match decode (tableBytes nbits w) with
  | .ok i => some i
  | .error _ =>
    match decode (tableBytes nbits w ++ [0#8, 0#8, 0#8]) with
    | .ok i => some i
    | .error _ => none

end Sys2Proof
end

