-- ==== Sys2Proof/Machine/Params.lean ====
section
/-! DEFINITION. The parameters' default values (spec/00_scope.md R9) and the cost table (spec/70_reset_and_hazards.md R256), by
the rows of spec/opcode_table.json. -/

namespace Sys2Proof

/-- What a buffer byte that nothing has written reads as. DESIGN CHOICE, unsafe: notes/assumptions/2.md. -/
def blankByte : Byte := 0x00#8

/-- The defaults of R9. -/
def Params.default : Params where
  undocOpcodes   := .z80
  edHoles        := .unknown
  blockIo        := .z80
  intVectorModel := .source
  intAcceptCost  := { nmi := 0, im0 := 0, im1 := 0, im2 := 0 }
  cycleCost      := []
  unmappedRead   := 0x00#8
  rModel         := .m1

/-- The number of an instruction's row in spec/opcode_table.json, from 0. -/
def Instr.row : Instr → Nat
  | .nop => 0
  | .ldRpNn _ _ => 1
  | .ldMBcA => 2
  | .ldMDeA => 3
  | .ldMNnHl _ => 4
  | .ldMNnA _ => 5
  | .ldAMBc => 6
  | .ldAMDe => 7
  | .ldHlMNn _ => 8
  | .ldAMNn _ => 9
  | .incRp _ => 10
  | .decRp _ => 11
  | .incR _ => 12
  | .incMHl => 13
  | .decR _ => 14
  | .decMHl => 15
  | .ldRN _ _ => 16
  | .ldMHlN _ => 17
  | .rlca => 18
  | .rrca => 19
  | .rla => 20
  | .rra => 21
  | .daa => 22
  | .cpl => 23
  | .scf => 24
  | .ccf => 25
  | .exAfAf => 26
  | .djnz _ => 27
  | .jr _ => 28
  | .jrCc _ _ => 29
  | .addHlRp _ => 30
  | .ldRR _ _ => 31
  | .ldRMHl _ => 32
  | .ldMHlR _ => 33
  | .halt => 34
  | .addAR _ => 35
  | .addAMHl => 36
  | .addAN _ => 37
  | .adcAR _ => 38
  | .adcAMHl => 39
  | .adcAN _ => 40
  | .subR _ => 41
  | .subMHl => 42
  | .subN _ => 43
  | .sbcAR _ => 44
  | .sbcAMHl => 45
  | .sbcAN _ => 46
  | .andR _ => 47
  | .andMHl => 48
  | .andN _ => 49
  | .xorR _ => 50
  | .xorMHl => 51
  | .xorN _ => 52
  | .orR _ => 53
  | .orMHl => 54
  | .orN _ => 55
  | .cpR _ => 56
  | .cpMHl => 57
  | .cpN _ => 58
  | .retCc _ => 59
  | .popQq _ => 60
  | .ret => 61
  | .exx => 62
  | .jpHl => 63
  | .ldSpHl => 64
  | .jpCcNn _ _ => 65
  | .jpNn _ => 66
  | .outNA _ => 67
  | .inAN _ => 68
  | .exMSpHl => 69
  | .exDeHl => 70
  | .di => 71
  | .ei => 72
  | .callCcNn _ _ => 73
  | .pushQq _ => 74
  | .callNn _ => 75
  | .rst _ => 76
  | .prefixCb => 77
  | .prefixEd => 78
  | .prefixDd => 79
  | .prefixFd => 80
  | .rlcR _ => 81
  | .rlcMHl => 82
  | .rrcR _ => 83
  | .rrcMHl => 84
  | .rlR _ => 85
  | .rlMHl => 86
  | .rrR _ => 87
  | .rrMHl => 88
  | .slaR _ => 89
  | .slaMHl => 90
  | .sraR _ => 91
  | .sraMHl => 92
  | .sllR _ => 93
  | .sllMHl => 94
  | .srlR _ => 95
  | .srlMHl => 96
  | .bitBR _ _ => 97
  | .bitBMHl _ => 98
  | .resBR _ _ => 99
  | .resBMHl _ => 100
  | .setBR _ _ => 101
  | .setBMHl _ => 102
  | .inRC _ => 103
  | .inC => 104
  | .outCR _ => 105
  | .outC0 => 106
  | .sbcHlRp _ => 107
  | .adcHlRp _ => 108
  | .ldMNnRp _ _ => 109
  | .ldRpMNn _ _ => 110
  | .neg => 111
  | .negMirror _ => 112
  | .retn => 113
  | .reti => 114
  | .retnMirror _ => 115
  | .im0 => 116
  | .im1 => 117
  | .im2 => 118
  | .im0Mirror _ => 119
  | .im1Mirror => 120
  | .im2Mirror => 121
  | .ldIA => 122
  | .ldRA => 123
  | .ldAI => 124
  | .ldAR => 125
  | .rrd => 126
  | .rld => 127
  | .ldi => 128
  | .ldd => 129
  | .ldir => 130
  | .lddr => 131
  | .cpi => 132
  | .cpd => 133
  | .cpir => 134
  | .cpdr => 135
  | .ini => 136
  | .ind => 137
  | .inir => 138
  | .indr => 139
  | .outi => 140
  | .outd => 141
  | .otir => 142
  | .otdr => 143
  | .edHole _ => 144
  | .addXyRp _ _ => 145
  | .ldXyNn _ _ => 146
  | .ldMNnXy _ _ => 147
  | .ldXyMNn _ _ => 148
  | .incXy _ => 149
  | .decXy _ => 150
  | .incMXy _ _ => 151
  | .decMXy _ _ => 152
  | .ldMXyN _ _ _ => 153
  | .ldRMXy _ _ _ => 154
  | .ldMXyR _ _ _ => 155
  | .addAMXy _ _ => 156
  | .adcAMXy _ _ => 157
  | .subMXy _ _ => 158
  | .sbcAMXy _ _ => 159
  | .andMXy _ _ => 160
  | .xorMXy _ _ => 161
  | .orMXy _ _ => 162
  | .cpMXy _ _ => 163
  | .popXy _ => 164
  | .pushXy _ => 165
  | .exMSpXy _ => 166
  | .jpXy _ => 167
  | .ldSpXy _ => 168
  | .incXyHalf _ _ => 169
  | .decXyHalf _ _ => 170
  | .ldXyHalfN _ _ _ => 171
  | .ldRXyHalf _ _ _ => 172
  | .ldXyHalfS _ _ _ => 173
  | .addAXyHalf _ _ => 174
  | .adcAXyHalf _ _ => 175
  | .subXyHalf _ _ => 176
  | .sbcAXyHalf _ _ => 177
  | .andXyHalf _ _ => 178
  | .xorXyHalf _ _ => 179
  | .orXyHalf _ _ => 180
  | .cpXyHalf _ _ => 181
  | .xyPrefixHlNotUsed _ _ => 182
  | .xyPrefixBeforeEd _ => 183
  | .rlcMXy _ _ => 184
  | .rlcMXyR _ _ _ => 185
  | .rrcMXy _ _ => 186
  | .rrcMXyR _ _ _ => 187
  | .rlMXy _ _ => 188
  | .rlMXyR _ _ _ => 189
  | .rrMXy _ _ => 190
  | .rrMXyR _ _ _ => 191
  | .slaMXy _ _ => 192
  | .slaMXyR _ _ _ => 193
  | .sraMXy _ _ => 194
  | .sraMXyR _ _ _ => 195
  | .sllMXy _ _ => 196
  | .sllMXyR _ _ _ => 197
  | .srlMXy _ _ => 198
  | .srlMXyR _ _ _ => 199
  | .bitBMXy _ _ _ => 200
  | .bitBMXyMirror _ _ _ _ => 201
  | .resBMXy _ _ _ => 202
  | .resBMXyR _ _ _ _ => 203
  | .setBMXy _ _ _ => 204
  | .setBMXyR _ _ _ _ => 205

/-- R256, base table, rows 0 to 34 (`NOP` to `HALT`): each form's cost and its conditional extra. -/
def costBase : List (Nat × Nat) := [
  (4, 0), (10, 0), (7, 0), (7, 0), (16, 0), (13, 0), (7, 0), (7, 0), (16, 0), (13, 0),
  (6, 0), (6, 0), (4, 0), (11, 0), (4, 0), (11, 0), (7, 0), (10, 0), (4, 0), (4, 0),
  (4, 0), (4, 0), (4, 0), (4, 0), (4, 0), (4, 0), (4, 0), (8, 5), (12, 0), (7, 5),
  (11, 0), (4, 0), (7, 0), (7, 0), (4, 0)]

/-- R256, the 8-bit ALU operations, rows 35 to 58: each form's cost and its conditional extra. -/
def costAlu : List (Nat × Nat) := [
  (4, 0), (7, 0), (7, 0), (4, 0), (7, 0), (7, 0), (4, 0), (7, 0), (7, 0), (4, 0),
  (7, 0), (7, 0), (4, 0), (7, 0), (7, 0), (4, 0), (7, 0), (7, 0), (4, 0), (7, 0),
  (7, 0), (4, 0), (7, 0), (7, 0)]

/-- R256, base table, rows 59 to 76 (`RET cc` to `RST`), and the four prefixes, which have no form cost: each form's cost and its conditional extra. -/
def costControl : List (Nat × Nat) := [
  (5, 6), (10, 0), (10, 0), (4, 0), (4, 0), (6, 0), (10, 0), (10, 0), (11, 0), (11, 0),
  (19, 0), (4, 0), (4, 0), (4, 0), (10, 7), (11, 0), (17, 0), (11, 0), (0, 0), (0, 0),
  (0, 0), (0, 0)]

/-- R256, CB table, rows 81 to 102: each form's cost and its conditional extra. -/
def costCb : List (Nat × Nat) := [
  (8, 0), (15, 0), (8, 0), (15, 0), (8, 0), (15, 0), (8, 0), (15, 0), (8, 0), (15, 0),
  (8, 0), (15, 0), (8, 0), (15, 0), (8, 0), (15, 0), (8, 0), (12, 0), (8, 0), (15, 0),
  (8, 0), (15, 0)]

/-- R256, ED table, rows 103 to 144 (the hole under ED_HOLES = nop): each form's cost and its conditional extra. -/
def costEd : List (Nat × Nat) := [
  (12, 0), (12, 0), (12, 0), (12, 0), (15, 0), (15, 0), (20, 0), (20, 0), (8, 0), (8, 0),
  (14, 0), (14, 0), (14, 0), (8, 0), (8, 0), (8, 0), (8, 0), (8, 0), (8, 0), (9, 0),
  (9, 0), (9, 0), (9, 0), (18, 0), (18, 0), (16, 0), (16, 0), (16, 5), (16, 5), (16, 0),
  (16, 0), (16, 5), (16, 5), (16, 0), (16, 0), (16, 5), (16, 5), (16, 0), (16, 0), (16, 5),
  (16, 5), (8, 0)]

/-- R256, DD and FD tables, rows 145 to 183, less the prefix: each form's cost and its conditional extra. -/
def costXy : List (Nat × Nat) := [
  (11, 0), (10, 0), (16, 0), (16, 0), (6, 0), (6, 0), (19, 0), (19, 0), (15, 0), (15, 0),
  (15, 0), (15, 0), (15, 0), (15, 0), (15, 0), (15, 0), (15, 0), (15, 0), (15, 0), (10, 0),
  (11, 0), (19, 0), (4, 0), (6, 0), (4, 0), (4, 0), (7, 0), (4, 0), (4, 0), (4, 0),
  (4, 0), (4, 0), (4, 0), (4, 0), (4, 0), (4, 0), (4, 0), (0, 0), (0, 0)]

/-- R256, DDCB and FDCB tables, rows 184 to 205, less the prefix: each form's cost and its conditional extra. -/
def costXyCb : List (Nat × Nat) := [
  (19, 0), (19, 0), (19, 0), (19, 0), (19, 0), (19, 0), (19, 0), (19, 0), (19, 0), (19, 0),
  (19, 0), (19, 0), (19, 0), (19, 0), (19, 0), (19, 0), (16, 0), (16, 0), (19, 0), (19, 0),
  (19, 0), (19, 0)]

/-- `CYCLE_COST` by default: the Zilog T-states (R256, D8), a row's cost and its conditional extra. The 4 cycles of a DD
or FD prefix are not in it (R81). -/
def cycleTable : List (Nat × Nat) :=
  costBase ++ costAlu ++ costControl ++ costCb ++ costEd ++ costXy ++ costXyCb

/-- `CYCLE_COST` of a row: the parameter's entry where it has one, else the default (R9, R256). -/
def Params.costOf (p : Params) (row : Nat) : Nat × Nat :=
  match p.cycleCost.find? (fun e => e.row == row) with
  | some e => (e.base, e.extra)
  | none => cycleTable.getD row (0, 0)

/-- The form's cost of an instruction, without its prefixes (R256). -/
def Instr.baseCost (p : Params) (i : Instr) : Nat := (p.costOf i.row).1

/-- The conditional extra of an instruction (R256). -/
def Instr.extraCost (p : Params) (i : Instr) : Nat := (p.costOf i.row).2

/-- What a DD or FD prefix costs (R81). -/
def prefixCost : Nat := 4

end Sys2Proof
end

