-- ==== Sys2Proof/Machine/State.lean ====
section
/-! DEFINITION. The machine's state (spec/10_state.md), memory map and outputs as plain data, the acts of the host
(spec/60_exceptions.md R244), the reasons a step can stop, and the state after reset (R40, spec/70_reset_and_hazards.md
R247). -/

namespace Sys2Proof.Machine

/-- One register file: A, F, B, C, D, E, H and L (R16). The main and the shadow file have the same shape (R17). -/
structure Regs where
  a : Byte
  f : Byte
  b : Byte
  c : Byte
  d : Byte
  e : Byte
  h : Byte
  l : Byte
deriving DecidableEq, Repr

/-- The active index selector `xy_sel` (R33). -/
inductive XySel where
  | hl | ix | iy
deriving DecidableEq, Repr

/-- The pending-prefix state `pfx` (R35). -/
inductive Pfx where
  | none | cb | ed
deriving DecidableEq, Repr

/-- The interrupt mode IM (R29). -/
inductive IntMode where
  | im0 | im1 | im2
deriving DecidableEq, Repr

/-- The kinds of interrupt (R223). -/
inductive IntKind where
  | nmi | im0 | im1 | im2
deriving DecidableEq, Repr

/-- The run-local mode bit (R36, R236): no `run` call in progress, or one in budget mode, or one in until-halt mode. -/
inductive RunPhase where
  | idle | budgeted | untilHalt
deriving DecidableEq, Repr

/-- The kind of a memory region (R42). -/
inductive RegionKind where
  | ro | rw
deriving DecidableEq, Repr

/-- A memory region (R42). Its buffer's bytes are in `State.mem`. -/
structure Region where
  base : Word
  size : Nat
  kind : RegionKind
deriving DecidableEq, Repr

/-- A peripheral (R54): what it matches and which callbacks it has. The callbacks themselves are the embedder's code
(notes/assumptions/13.md). -/
structure Peripheral where
  mask     : Word
  pattern  : Word
  hasRead  : Bool
  hasWrite : Bool
deriving DecidableEq, Repr

/-- A diagnostic event (R225). -/
structure DiagEvent where
  table  : OpTable
  opcode : Byte
deriving DecidableEq, Repr

/-- A bus transaction (R41, R238). `served` is the number of the peripheral whose callback was called, if one was
(R55, R56, R245). -/
inductive BusEvent where
  | memRead  (addr : Word) (v : Byte)
  | memWrite (addr : Word) (v : Byte)
  | ioRead   (port : Word) (v : Byte) (served : Option Nat)
  | ioWrite  (port : Word) (v : Byte) (served : Option Nat)
deriving DecidableEq, Repr

/-- The 8-bit registers the host accessors write (R38). -/
inductive AccReg8 where
  | a | f | b | c | d | e | h | l
  | a' | f' | b' | c' | d' | e' | h' | l'
  | i | r
deriving DecidableEq, Repr

/-- The 16-bit registers the host accessors write (R38). -/
inductive AccReg16 where
  | ix | iy | sp | pc
deriving DecidableEq, Repr

/-- The eight flags, for the host's flag accessor (R21, R38). -/
inductive FlagName where
  | s | z | f5 | h | f3 | pv | n | c
deriving DecidableEq, Repr

/-- What the host does to the core between `run` calls (R244). -/
inductive HostAct where
  /-- `reset(state)` (R247). -/
  | reset
  /-- `run(state, allowance)`, a signed 32-bit allowance (R236). -/
  | run (allowance : BitVec 32)
  /-- `signal_nmi(state)` (R227). -/
  | signalNmi
  /-- `signal_irq(state)` (R227). -/
  | signalIrq
  /-- `register_memory_region(state, base, size, kind, buffer)` (R42, R244). -/
  | registerRegion (base : Word) (size : Nat) (kind : RegionKind) (buffer : List Byte)
  /-- `register_peripheral(state, mask, pattern, read_cb?, write_cb?)` (R54, R244). -/
  | registerPeripheral (mask pattern : Word) (hasRead hasWrite : Bool)
  /-- A change of one byte of a region's buffer between runs (R244): the byte at `offset` of the buffer of region number
  `region`. -/
  | pokeBuffer (region offset : Nat) (v : Byte)
  /-- Accessor writes (R38, R244). -/
  | setReg8 (reg : AccReg8) (v : Byte)
  | setReg16 (reg : AccReg16) (v : Word)
  | setFlag (k : FlagName) (v : Bool)
  | setIff0 (v : Bool)
  | setIff1 (v : Bool)
  | setIm (mode : Nat)
  | setNmiPending (v : Bool)
  | setIrqPending (v : Bool)
  | setHalted (v : Bool)
  | setBudget (v : Int)
  /-- How a snapshot loader resumes: PC from the top of the loaded stack, IFF1 from IFF0 (R246). -/
  | resumeSnapshot
deriving DecidableEq, Repr

/-- The whole state. The register file, its shadow, the index registers, the control state and the decoder state are the
spec's (R16 to R35); the memory map, the buffers and the peripherals are the bus's (R42, R54); `diag` and `bus`
are outputs that only grow, newest event first (R37, R238, notes/assumptions/9.md); `params` are the parameters
of R9. The last three fields are the model's own: what the environment will do and supply. -/
structure State where
  /-- A, F, B, C, D, E, H, L (R16). -/
  regs        : Regs
  /-- A', F', B', C', D', E', H', L' (R17). -/
  shadow      : Regs
  /-- IX (R18). -/
  ix          : Word
  /-- IY (R18). -/
  iy          : Word
  /-- The stack pointer (R19). -/
  sp          : Word
  /-- The program counter (R20). -/
  pc          : Word
  /-- The interrupt vector register I (R25). -/
  i           : Byte
  /-- The refresh register R (R26, R27). -/
  r           : Byte
  /-- IFF0, "interrupts enabled" (R28). -/
  iff0        : Bool
  /-- IFF1, "pre-NMI snapshot" (R28). -/
  iff1        : Bool
  /-- The interrupt mode (R29). -/
  im          : IntMode
  /-- `nmi_pending` (R30). -/
  nmiPending  : Bool
  /-- `irq_pending` (R30). -/
  irqPending  : Bool
  /-- `halted` (R31). -/
  halted      : Bool
  /-- The remaining-cycle budget (R32). -/
  budget      : Int
  /-- `xy_sel` (R33). -/
  xySel       : XySel
  /-- `disp` (R34). -/
  disp        : Byte
  /-- `pfx` (R35). -/
  pfx         : Pfx
  /-- The run-local mode bit (R36, R236). -/
  phase       : RunPhase
  /-- The memory regions, in registration order (R42). -/
  regions     : List Region
  /-- The buffers' bytes in canonical form: the byte at offset `o` of region number `k` has key `k * 65536 + o`
  (notes/assumptions/10.md). -/
  mem         : List Host.Cell
  /-- The peripherals, in registration order (R54). -/
  peripherals : List Peripheral
  /-- The diagnostic channel, newest event first (R37). -/
  diag        : List DiagEvent
  /-- The bus transactions, newest first (R238). -/
  bus         : List BusEvent
  /-- The parameters (R9). -/
  params      : Params
  /-- MODEL: the acts the host will perform, oldest first (notes/assumptions/5.md). -/
  host        : List HostAct
  /-- MODEL: bytes the environment will supply, oldest first (notes/assumptions/8.md). -/
  inputs      : List Byte
  /-- MODEL: how many free bytes have been drawn (notes/assumptions/8.md). -/
  draws       : Nat
deriving DecidableEq, Repr

/-- Why the machine stops with a fault. -/
inductive Fault where
  /-- Raised by the fetch (Fetch.lean) if the bytes at PC hold no complete instruction. Safe: the fetch offers as many
  bytes as the longest instruction has, so no state raises it. -/
  | bytesEnd
deriving DecidableEq, Repr

/-- Why a step has no meaning. -/
inductive Refusal where
  /-- Raised by exec for an instruction that has no meaning yet. Safe: nothing can be proved of it. -/
  | notModelled (mnemonic : String)
  /-- Raised where the budget leaves the signed 32-bit range (R32, D9, U15), by `run` entry, an accessor write and the
  end of an instruction. Safe: the spec refuses such a state. -/
  | budgetRange
  /-- Raised by a host write of IM outside {0, 1, 2} (R29, R244, U6). Safe: the spec refuses the act. -/
  | illegalIm
  /-- Raised by a registration of a region above 0x10000 bytes or with a buffer shorter than its size (R244, U7). Safe:
  the spec refuses the act. -/
  | badRegion
  /-- Raised by the acceptance of an interrupt in mode 0 under INT_VECTOR_MODEL = hardware with a data-bus byte that is
  no RST (R232, U12). Safe: the spec refuses it. -/
  | im0NotRst
deriving DecidableEq, Repr

/-- What a step or a meaning answers. -/
abbrev Answer := Host.Outcome State Fault Refusal

/-- A register file of zeros (R40). -/
def Regs.zero : Regs :=
  { a := 0#8, f := 0#8, b := 0#8, c := 0#8, d := 0#8, e := 0#8, h := 0#8, l := 0#8 }

/-- The region of the machine that spec/95_test_vectors.md describes: all 65,536 addresses read-write
(notes/assumptions/1.md). -/
def allRam : Region := { base := 0x0000#16, size := 0x10000, kind := .rw }

/-- The machine right after reset (R40, R247), with the memory map of spec/95_test_vectors.md's conventions
(notes/assumptions/1.md), nothing in memory, no output yet and no `run` call in progress. -/
def State.reset : State where
  regs        := Regs.zero
  shadow      := Regs.zero
  ix          := 0x0000#16
  iy          := 0x0000#16
  sp          := 0x0000#16
  pc          := 0x0000#16
  i           := 0x00#8
  r           := 0x00#8
  iff0        := false
  iff1        := false
  im          := .im0
  nmiPending  := false
  irqPending  := false
  halted      := false
  budget      := 0
  xySel       := .hl
  disp        := 0x00#8
  pfx         := .none
  phase       := .idle
  regions     := [allRam]
  mem         := []
  peripherals := []
  diag        := []
  bus         := []
  params      := Params.default
  host        := []
  inputs      := []
  draws       := 0

end Sys2Proof.Machine
end

