-- ==== Sys2Proof/Machine/Ops.lean ====
section
/-! DEFINITION. The named operations over memory, ports and control state: the buffers and the region lookup
(spec/20_memory.md R42 to R49), the port bus (R54 to R57), the stack (spec/00_scope.md R13), R's count (R27), draws,
the unknown-opcode event (spec/60_exceptions.md R224), interrupt acceptance (R228 to R232) and the return from an
interrupt (spec/45_control.md R208, R209). -/

namespace Sys2Proof.Machine

/-! ## The buffers, one canonical list -/

/-- The byte with a key; a key that is not listed reads as `blankByte`. -/
def memRead : List Host.Cell → Nat → Byte
  | [], _ => blankByte
  | (a, b) :: m, k => if a = k then b else memRead m k

/-- The list with one byte changed, in canonical form: writing `blankByte` removes the entry. -/
def memWrite : List Host.Cell → Nat → Byte → List Host.Cell
  | [], k, v => if v = blankByte then [] else [(k, v)]
  | (a, b) :: m, k, v =>
    if k < a then
      if v = blankByte then (a, b) :: m else (k, v) :: (a, b) :: m
    else if k = a then
      if v = blankByte then m else (k, v) :: m
    else (a, b) :: memWrite m k v

/-- Keys strictly rising from `lo` on, and no entry that an unlisted key would read as. -/
def memWfFrom : Nat → List Host.Cell → Bool
  | _, [] => true
  | lo, (a, b) :: m => decide (lo ≤ a) && b != blankByte && memWfFrom (a + 1) m

/-- The canonical form of `State.mem`. -/
def Memory.wf (m : List Host.Cell) : Bool := memWfFrom 0 m

/-- The key of a region's buffer byte (notes/assumptions/10.md). -/
def bufferKey (region offset : Nat) : Nat := region * 65536 + offset

/-! ## The memory bus -/

/-- The offset of an address in a region, `(a - b) mod 2^16` (R43). -/
def Region.offset (g : Region) (a : Word) : Nat := (a - g.base).toNat

/-- The first region, in registration order, that matches an address (R43, R44): the key of the buffer byte and the
region's kind. `k` is the number of the list's first region. -/
def findRegion : List Region → Nat → Word → Option (Nat × RegionKind)
  | [], _, _ => none
  | g :: gs, k, a =>
    if g.offset a < g.size then some (bufferKey k (g.offset a), g.kind) else findRegion gs (k + 1) a

/-- A transaction added to the bus record (R238). -/
def State.log (s : State) (e : BusEvent) : State := { s with bus := e :: s.bus }

/-- `MemRead(a, 1)`, the value (R44). -/
def State.peek (s : State) (a : Word) : Byte :=
  match findRegion s.regions 0 a with
  | some (key, _) => memRead s.mem key
  | none => s.params.unmappedRead

/-- `MemRead(a, 2)`, the value: little-endian, the second address modulo 2^16 (R49, R52). -/
def State.peek16 (s : State) (a : Word) : Word := mkWord (s.peek (a + 1)) (s.peek a)

/-- `MemRead(a, 1)`, the transaction: a read changes nothing but the record (R48). -/
def State.noteRead (s : State) (a : Word) : State := s.log (.memRead a (s.peek a))

/-- `MemRead(a, 2)`, the transactions: two byte reads (R49). DESIGN CHOICE (notes/assumptions/30.md), unsafe: the byte
at `a` is recorded before the byte at `a + 1`; the spec states that order for LD XY,(nn) only (R164). -/
def State.noteRead16 (s : State) (a : Word) : State := (s.noteRead a).noteRead (a + 1)

/-- The buffers after `MemWrite(a, 1, v)`: the first matching region decides; a read-only one and no region discard the
write (R45). -/
def State.stored (s : State) (a : Word) (v : Byte) : List Host.Cell :=
  match findRegion s.regions 0 a with
  | some (key, .rw) => memWrite s.mem key v
  | some (_, .ro) => s.mem
  | none => s.mem

/-- `MemWrite(a, 1, v)` (R45). -/
def State.write8 (s : State) (a : Word) (v : Byte) : State :=
  { s with mem := s.stored a v, bus := .memWrite a v :: s.bus }

/-- `MemWrite(a, 2, v)`: the low byte at `a`, then the high byte at `a + 1` (R49, D28). -/
def State.write16 (s : State) (a v : Word) : State :=
  (s.write8 a (loByte v)).write8 (a + 1) (hiByte v)

/-! ## The stack (R13) -/

/-- `Push16(v)`. -/
def State.push16 (s : State) (v : Word) : State :=
  { s with sp := s.sp - 2 }.write16 (s.sp - 2) v

/-- The value `Pop16()` returns. -/
def State.top16 (s : State) : Word := s.peek16 s.sp

/-- `Pop16()`, the effect: two reads, then `SP <- SP + 2`. -/
def State.dropTop (s : State) : State := { s.noteRead16 s.sp with sp := s.sp + 2 }

/-! ## Draws (notes/assumptions/8.md) -/

/-- The next byte the environment supplies: the oldest of `inputs`, or a free value. -/
def State.drawn (s : State) : Byte :=
  match s.inputs with
  | b :: _ => b
  | [] => Config.freeByte s.draws

/-- The state after a draw. -/
def State.afterDraw (s : State) : State :=
  match s.inputs with
  | _ :: bs => { s with inputs := bs }
  | [] => { s with draws := s.draws + 1 }

/-! ## The port bus -/

/-- `(p & mask) = pattern` (R54). -/
def Peripheral.matchesPort (d : Peripheral) (port : Word) : Bool := (port &&& d.mask) == d.pattern

/-- The first peripheral, in registration order, that matches a port, with its number (R54). -/
def findPeripheral : List Peripheral → Nat → Word → Option (Nat × Peripheral)
  | [], _, _ => none
  | d :: ds, k, port => if d.matchesPort port then some (k, d) else findPeripheral ds (k + 1) port

/-- The number of the peripheral whose read callback serves a port, if one does (R55). -/
def State.readServer (s : State) (port : Word) : Option Nat :=
  match findPeripheral s.peripherals 0 port with
  | some (k, d) => if d.hasRead then some k else none
  | none => none

/-- The number of the peripheral whose write callback serves a port, if one does (R56). -/
def State.writeServer (s : State) (port : Word) : Option Nat :=
  match findPeripheral s.peripherals 0 port with
  | some (k, d) => if d.hasWrite then some k else none
  | none => none

/-- The byte `IORead(p)` returns: what the callback returns, a draw (D37), or 0x00 where there is none (R55, D14). -/
def State.ioValue (s : State) (port : Word) : Byte :=
  match s.readServer port with
  | some _ => s.drawn
  | none => 0x00#8

/-- `IORead(p)`, the effect: the transaction, and the draw where a callback was called (R55, R57). -/
def State.ioRead (s : State) (port : Word) : State :=
  match s.readServer port with
  | some k => s.afterDraw.log (.ioRead port s.drawn (some k))
  | none => s.log (.ioRead port 0x00#8 none)

/-- `IOWrite(p, v)`: the transaction, naming the peripheral whose callback was called with it (R56, R245). -/
def State.ioWrite (s : State) (port : Word) (v : Byte) : State :=
  s.log (.ioWrite port v (s.writeServer port))

/-! ## R's count and the budget -/

/-- `R[7] : (R[6:0] + n)[6:0]`: bits 6:0 count modulo 128 and bit 7 is kept (R27). -/
def countR (r : Byte) (n : Nat) : Byte := (r &&& 0x80#8) ||| ((r + BitVec.ofNat 8 n) &&& 0x7F#8)

/-- `IncR()`, `n` times (R27). -/
def State.incR (s : State) (n : Nat) : State := { s with r := countR s.r n }

/-- `Charge(n)` (R235). -/
def State.charge (s : State) (n : Nat) : State := { s with budget := s.budget - n }

/-- The conditional extra of an instruction, charged when its condition holds (R256). -/
def State.chargeExtra (s : State) (i : Instr) : State := s.charge (i.extraCost s.params)

/-- A budget the spec gives a meaning to: the signed 32-bit range (R32, D9). -/
def budgetInRange (b : Int) : Bool := decide (-2147483648 ≤ b) && decide (b ≤ 2147483647)

/-- One operation after another: a fault or a refusal stops. -/
def andThen (x : Answer) (f : State → Answer) : Answer :=
  match x with
  | .next s => f s
  | .fault r => .fault r
  | .refused r => .refused r

/-- A state whose budget leaves the range is refused (R32, U15). -/
def checkBudget (s : State) : Answer :=
  if budgetInRange s.budget then .next s else .refused .budgetRange

/-! ## Instruction boundaries and the run loop's tests -/

/-- The decoder state at an instruction boundary: `xy_sel = HL`, `disp = 0x00`, `pfx = none` (R33 to R35, R81). -/
def State.atBoundary (s : State) : State := { s with xySel := .hl, disp := 0x00#8, pfx := .none }

/-- Between a prefix byte and the rest of its instruction (R83): no instruction boundary (R234). -/
def State.midInstr (s : State) : Bool := s.xySel != .hl || s.pfx != .none

/-- The run loop's test before an instruction (R237); inside an instruction nothing is tested (R234). -/
def State.goesOn (s : State) : Bool :=
  s.midInstr || (!s.halted && (s.phase == .untilHalt || decide (0 < s.budget)))

/-- `run` returns: a halted core's budget is drained to zero (R237). -/
def State.leaveRun (s : State) : State :=
  { s with phase := .idle, budget := if s.halted then 0 else s.budget }

/-! ## The unknown-opcode event -/

/-- The event an unrecognized instruction reports: the table the opcode byte was decoded in, and that byte (R97, R225). -/
def unknownEvent (i : Instr) : DiagEvent := { table := i.opTable, opcode := i.opcode }

/-- `raise UnknownOpcode(table, opcode)`: the event is reported, then the core halts; nothing else changes (R224). -/
def State.raiseUnknown (s : State) (i : Instr) : State :=
  { s with diag := unknownEvent i :: s.diag, halted := true }

/-- An instruction that the parameters may leave unrecognized: its operation where they recognize it, the unknown-opcode
event where they do not (R97). -/
def State.ifRecognized (s : State) (i : Instr) (op : State → State) : State :=
  if i.recognized s.params then op s else s.raiseUnknown i

/-! ## Interrupt acceptance and return -/

/-- The NMI target (R59, R230, D6). -/
def nmiTarget : Word := 0x0066#16

/-- The mode 1 target (R59, R232, D6). -/
def im1Target : Word := 0x0038#16

/-- `INT_ACCEPT_COST(kind)` (R9, R229). -/
def acceptCost (c : AcceptCost) : IntKind → Nat
  | .nmi => c.nmi
  | .im0 => c.im0
  | .im1 => c.im1
  | .im2 => c.im2

/-- `Accept(kind, target)` up to the new PC: R counts, PC is pushed, `halted` is cleared, the cost is charged (R229). -/
def State.acceptEntry (s : State) (kind : IntKind) : State :=
  { (s.incR 1).push16 s.pc with
    halted := false
    budget := s.budget - acceptCost s.params.intAcceptCost kind }

/-- `Accept(kind, target)`, the entry sequence every interrupt shares (R229). -/
def State.accept (s : State) (kind : IntKind) (target : Word) : State :=
  { s.acceptEntry kind with pc := target }

/-- Acceptance in mode 2 with the hardware's vector table: after the push, PC is read at the table's address (R232). -/
def State.acceptVectored (s : State) (vector : Word) : State :=
  let t := s.acceptEntry .im2
  { t.noteRead16 vector with pc := t.peek16 vector }

/-- The flip-flops and the pending flag at NMI acceptance (R230). -/
def State.takeNmi (s : State) : State :=
  { s with iff1 := s.iff0, iff0 := false, nmiPending := false }

/-- The flip-flops and the pending flag at maskable-interrupt acceptance (R231). -/
def State.takeIrq (s : State) : State :=
  { s with iff0 := false, iff1 := false, irqPending := false }

/-- A data-bus byte that is an RST opcode (R232). -/
def isRst (b : Byte) : Bool := (b &&& 0xC7#8) == 0xC7#8

/-- Maskable-interrupt acceptance by mode (R231, R232). The data-bus byte is a draw (D5). DESIGN CHOICE: reading it adds no
event to the bus record, although R41 counts the byte among what reaches the port space: R232 gives it no `IORead`
and no port address (notes/assumptions/15.md). -/
def State.acceptIrq (s : State) : Answer :=
  let t := s.takeIrq
  match s.im, s.params.intVectorModel with
  | .im1, _ => .next (t.accept .im1 im1Target)
  | .im0, .source => .next (t.accept .im0 (mkWord s.i 0x00#8))
  | .im2, .source => .next (t.accept .im2 (mkWord s.i 0x00#8))
  | .im0, .hardware =>
    if isRst t.drawn then .next (t.afterDraw.accept .im0 (zext (t.drawn &&& 0x38#8)))
    else .refused .im0NotRst
  | .im2, .hardware => .next (t.afterDraw.acceptVectored (mkWord s.i t.drawn))

/-- `IntCheck()`: at most one interrupt is accepted, the NMI first (R228). -/
def State.intCheck (s : State) : Answer :=
  if s.nmiPending then .next (s.takeNmi.accept .nmi nmiTarget)
  else if s.irqPending && s.iff0 then s.acceptIrq
  else .next s

/-- The return from an interrupt, RETN and RETI: `PC <- Pop16(); IFF0 <- IFF1` (R208, R209, D21). -/
def State.returnFromInt (s : State) : State :=
  { s.dropTop with pc := s.top16, iff0 := s.iff1 }

end Sys2Proof.Machine
end

