-- ==== Sys2Proof/Machine/Operands.lean ====
section
/-! DEFINITION. Operand forms: registers, pairs, the active index register and its halves (spec/30_encoding.md R68 to R71,
R85, R86, R89), the effective address (R80) and the memory operand M (spec/00_scope.md R14). -/

namespace Sys2Proof.Machine

/-! ## Pairs (R16): the first-named register is the high half -/

/-- AF. -/
def State.af (s : State) : Word := mkWord s.regs.a s.regs.f
/-- BC. -/
def State.bc (s : State) : Word := mkWord s.regs.b s.regs.c
/-- DE. -/
def State.de (s : State) : Word := mkWord s.regs.d s.regs.e
/-- HL. -/
def State.hl (s : State) : Word := mkWord s.regs.h s.regs.l

/-- `A <- v`. -/
def State.setA (s : State) (v : Byte) : State := { s with regs := { s.regs with a := v } }
/-- `F <- v`. -/
def State.setF (s : State) (v : Byte) : State := { s with regs := { s.regs with f := v } }
/-- `B <- v`. -/
def State.setB (s : State) (v : Byte) : State := { s with regs := { s.regs with b := v } }
/-- `AF <- v` (R16). -/
def State.setAf (s : State) (v : Word) : State :=
  { s with regs := { s.regs with a := hiByte v, f := loByte v } }
/-- `BC <- v` (R16). -/
def State.setBc (s : State) (v : Word) : State :=
  { s with regs := { s.regs with b := hiByte v, c := loByte v } }
/-- `DE <- v` (R16). -/
def State.setDe (s : State) (v : Word) : State :=
  { s with regs := { s.regs with d := hiByte v, e := loByte v } }
/-- `HL <- v` (R16). -/
def State.setHl (s : State) (v : Word) : State :=
  { s with regs := { s.regs with h := hiByte v, l := loByte v } }
/-- `SP <- v`. -/
def State.setSp (s : State) (v : Word) : State := { s with sp := v }
/-- `PC <- v`. -/
def State.setPc (s : State) (v : Word) : State := { s with pc := v }

/-! ## Register fields -/

/-- `reg8[r]`, read (R68). -/
def State.getR (s : State) : Reg8 → Byte
  | .b => s.regs.b | .c => s.regs.c | .d => s.regs.d | .e => s.regs.e
  | .h => s.regs.h | .l => s.regs.l | .a => s.regs.a

/-- `reg8[r] <- v` (R68). -/
def State.setR (s : State) (r : Reg8) (v : Byte) : State :=
  match r with
  | .b => { s with regs := { s.regs with b := v } }
  | .c => { s with regs := { s.regs with c := v } }
  | .d => { s with regs := { s.regs with d := v } }
  | .e => { s with regs := { s.regs with e := v } }
  | .h => { s with regs := { s.regs with h := v } }
  | .l => { s with regs := { s.regs with l := v } }
  | .a => { s with regs := { s.regs with a := v } }

/-- `rp[p]`, read (R69). -/
def State.getRp (s : State) : Pair → Word
  | .bc => s.bc | .de => s.de | .hl => s.hl | .sp => s.sp

/-- `rp[p] <- v` (R69). -/
def State.setRp (s : State) (p : Pair) (v : Word) : State :=
  match p with
  | .bc => s.setBc v | .de => s.setDe v | .hl => s.setHl v | .sp => s.setSp v

/-- `rp2[p]`, read (R70). -/
def State.getQq (s : State) : StackPair → Word
  | .bc => s.bc | .de => s.de | .hl => s.hl | .af => s.af

/-- `rp2[p] <- v` (R70). -/
def State.setQq (s : State) (p : StackPair) (v : Word) : State :=
  match p with
  | .bc => s.setBc v | .de => s.setDe v | .hl => s.setHl v | .af => s.setAf v

/-- The register an index prefix selects, read (R85). -/
def State.getIdx (s : State) : Idx → Word
  | .ix => s.ix | .iy => s.iy

/-- The register an index prefix selects, written; the other two of HL, IX and IY are untouched (R85). -/
def State.setIdx (s : State) (x : Idx) (v : Word) : State :=
  match x with
  | .ix => { s with ix := v } | .iy => { s with iy := v }

/-- `rp[p]` under an index prefix, read: code 2 is XY (R69, R86). -/
def State.getXyRp (s : State) (x : Idx) : XyPair → Word
  | .bc => s.bc | .de => s.de | .xy => s.getIdx x | .sp => s.sp

/-- A half of an index register, read (R89). -/
def State.getHalf (s : State) (x : Idx) : Half → Byte
  | .hi => hiByte (s.getIdx x) | .lo => loByte (s.getIdx x)

/-- A half of an index register, written; its other 8 bits are unchanged (R89). -/
def State.setHalf (s : State) (x : Idx) (h : Half) (v : Byte) : State :=
  match h with
  | .hi => s.setIdx x (mkWord v (loByte (s.getIdx x)))
  | .lo => s.setIdx x (mkWord (hiByte (s.getIdx x)) v)

/-- The sources of `LD XYH/XYL,s` (R147). -/
def State.getHalfSrc (s : State) (x : Idx) : HalfSrc → Byte
  | .b => s.regs.b | .c => s.regs.c | .d => s.regs.d | .e => s.regs.e
  | .xyh => s.getHalf x .hi | .xyl => s.getHalf x .lo | .a => s.regs.a

/-! ## The memory operand M -/

/-- The selector value of an index prefix (R33, R85). -/
def idxSel : Idx → XySel
  | .ix => .ix | .iy => .iy

/-- The active index register XY (R85). -/
def State.xy (s : State) : Word :=
  match s.xySel with
  | .hl => s.hl | .ix => s.ix | .iy => s.iy

/-- `select_index` and the displacement of a memory operand (R79, R80, R85): with HL active the displacement is zero. -/
def State.select (s : State) (sel : XySel) (d : Byte) : State := { s with xySel := sel, disp := d }

/-- The operand `(HL)` (R80). -/
def State.selectHl (s : State) : State := s.select .hl 0x00#8

/-- The operand `(XY+d)` (R80). -/
def State.selectXy (s : State) (x : Idx) (d : Byte) : State := s.select (idxSel x) d

/-- `EA()`: HL, or `XY + sext_16(disp)` modulo 2^16 (R80, R52). -/
def State.ea (s : State) : Word :=
  match s.xySel with
  | .hl => s.hl
  | .ix | .iy => s.xy + sext s.disp

/-- The byte at the effective address: `MemRead(EA(), 1)`, the value. -/
def State.m (s : State) : Byte := s.peek s.ea

/-- The read of the memory operand, the transaction. -/
def State.noteM (s : State) : State := s.noteRead s.ea

/-- The write of the memory operand, at the address it was read at (R80). -/
def State.writeM (s : State) (v : Byte) : State := s.write8 s.ea v

/-- An operation on the byte of the memory operand, which is read once (R105). -/
def State.withM (s : State) (op : State → Byte → State) : State := op s.noteM s.m

/-! ## Conditions -/

/-- `cc[c]`, a function of F alone (R71): Z is bit 6, C bit 0, PV bit 2 and S bit 7 (R21). -/
def condHolds (f : Byte) : Cond → Bool
  | .nz => !bitAt f 6 | .z => bitAt f 6
  | .nc => !bitAt f 0 | .c => bitAt f 0
  | .po => !bitAt f 2 | .pe => bitAt f 2
  | .p => !bitAt f 7 | .m => bitAt f 7

/-- A condition of the present flags. -/
def State.cond (s : State) (cc : Cond) : Bool := condHolds s.regs.f cc

end Sys2Proof.Machine
end

