-- ==== Sys2Proof/Machine/Flags.lean ====
section
/-! DEFINITION. The flag byte (spec/10_state.md R21) and every flag computation: the primitives of spec/40_alu8.md (R101 to R103),
logic, DAA, the rotate and shift flags (spec/41_rotate_bit.md R127), BIT, the 16-bit chains (spec/42_arith16.md), the block
flags (spec/44_block.md R177, R182, R187). Each gives the value of all eight bits (R22); a bit a rule leaves unchanged is
taken from the old F. -/

namespace Sys2Proof.Machine

/-- F from its eight bits, bit 7 first: S, Z, 5, H, 3, PV, N, C (R21). -/
def packF (fs fz f5 fh f3 fpv fn fc : Bool) : Byte :=
  BitVec.ofBool fs ++ BitVec.ofBool fz ++ BitVec.ofBool f5 ++ BitVec.ofBool fh ++
  BitVec.ofBool f3 ++ BitVec.ofBool fpv ++ BitVec.ofBool fn ++ BitVec.ofBool fc

/-- `F.S` (R21). -/
def flagS (f : Byte) : Bool := bitAt f 7
/-- `F.Z` (R21). -/
def flagZ (f : Byte) : Bool := bitAt f 6
/-- `F.5` (R21). -/
def flag5 (f : Byte) : Bool := bitAt f 5
/-- `F.H` (R21). -/
def flagH (f : Byte) : Bool := bitAt f 4
/-- `F.3` (R21). -/
def flag3 (f : Byte) : Bool := bitAt f 3
/-- `F.PV` (R21). -/
def flagPV (f : Byte) : Bool := bitAt f 2
/-- `F.N` (R21). -/
def flagN (f : Byte) : Bool := bitAt f 1
/-- `F.C` (R21). -/
def flagC (f : Byte) : Bool := bitAt f 0

/-- `Parity(v)`: 1 when an even number of bits is set (R101). -/
def parity (v : Byte) : Bool :=
  !(bitAt v 0 ^^ bitAt v 1 ^^ bitAt v 2 ^^ bitAt v 3 ^^ bitAt v 4 ^^ bitAt v 5 ^^ bitAt v 6 ^^ bitAt v 7)

/-- A result and a flag byte. -/
structure AluOut where
  r : Byte
  f : Byte
deriving DecidableEq, Repr

/-- `add_with_carry(a, b, c_in)` (R102). -/
def addWithCarry (a b : Byte) (cin : Bool) : AluOut :=
  let t := a.toNat + b.toNat + cin.toNat
  let r := BitVec.ofNat 8 t
  let x := a ^^^ b ^^^ r
  let cout := decide (255 < t)
  { r := r
    f := packF (bitAt r 7) (r == 0#8) (bitAt r 5) (bitAt x 4) (bitAt r 3) (bitAt x 7 ^^ cout) false cout }

/-- `sub_with_borrow(a, b, c_in)`: addition of the one's complement with carry pre-set and post-fixed (R103). -/
def subWithBorrow (a b : Byte) (cin : Bool) : AluOut :=
  let g := addWithCarry a (~~~b) (!cin)
  { r := g.r
    f := packF (bitAt g.r 7) (g.r == 0#8) (bitAt g.r 5) (!flagH g.f) (bitAt g.r 3) (flagPV g.f) true (!flagC g.f) }

/-- The flags of a compare: those of the subtraction, with bits 5 and 3 of the operand (R111, D31). -/
def cpFlags (a v : Byte) : Byte :=
  let f := (subWithBorrow a v false).f
  packF (flagS f) (flagZ f) (bitAt v 5) (flagH f) (bitAt v 3) (flagPV f) true (flagC f)

/-- The flags of AND, XOR and OR from the result, and the half carry (R113, R114, R115). -/
def logicFlags (r : Byte) (h : Bool) : Byte :=
  packF (bitAt r 7) (r == 0#8) (bitAt r 5) h (bitAt r 3) (parity r) false false

/-- `f` with the carry of `old`: INC and DEC preserve C (R116, R117). -/
def keepCarry (old f : Byte) : Byte :=
  packF (flagS f) (flagZ f) (flag5 f) (flagH f) (flag3 f) (flagPV f) (flagN f) (flagC old)

/-- DAA's correction (R118). -/
def daaCorr (a f : Byte) : Byte :=
  (if flagH f || decide (9 < (a &&& 0x0F#8).toNat) then 0x06#8 else 0x00#8) |||
  (if flagC f || decide (0x99 < a.toNat) then 0x60#8 else 0x00#8)

/-- DAA (R118). -/
def daa (a f : Byte) : AluOut :=
  let corr := daaCorr a f
  let c := flagC f || decide (0x99 < a.toNat)
  let low := (a &&& 0x0F#8).toNat
  let r := if flagN f then a - corr else a + corr
  let h := if flagN f then flagH f && decide (low < 6) else decide (9 < low)
  { r := r, f := packF (bitAt r 7) (r == 0#8) (bitAt r 5) h (bitAt r 3) (parity r) (flagN f) c }

/-- The flags of CPL from the new A: H and N set, S, Z, PV and C unchanged (R119). -/
def cplFlags (old a : Byte) : Byte :=
  packF (flagS old) (flagZ old) (bitAt a 5) true (bitAt a 3) (flagPV old) true (flagC old)

/-- The flags of SCF, CCF and the accumulator rotates: S, Z and PV unchanged, N clear, bits 5 and 3 from A (R120 to
R125). -/
def accFlags (old a : Byte) (h c : Bool) : Byte :=
  packF (flagS old) (flagZ old) (bitAt a 5) h (bitAt a 3) (flagPV old) false c

/-- The flags of every CB shift from its result and carry-out (R127). -/
def shiftFlags (r : Byte) (c : Bool) : Byte :=
  packF (bitAt r 7) (r == 0#8) (bitAt r 5) false (bitAt r 3) (parity r) false c

/-- The flags of RLD, RRD and `IN r,(C)` from a byte: C unchanged (R139, R140, R212). -/
def inFlags (old v : Byte) : Byte := shiftFlags v (flagC old)

/-- The flags of `LD A,I` and `LD A,R`: PV is IFF1, C unchanged (R161, R162). -/
def ldAirFlags (old v : Byte) (iff1 : Bool) : Byte :=
  packF (bitAt v 7) (v == 0#8) (bitAt v 5) false (bitAt v 3) iff1 false (flagC old)

/-- The flags of BIT b: `v` is the tested byte and `src` gives bits 5 and 3 (R136). -/
def bitFlags (old v src : Byte) (b : Nat) : Byte :=
  packF (decide (b = 7) && bitAt v b) (!bitAt v b) (bitAt src 5) true (bitAt src 3) (!bitAt v b) false (flagC old)

/-! ## Shifts: the result and the bit shifted out -/

/-- A shifted byte and its carry-out. -/
structure ShiftOut where
  r : Byte
  c : Bool
deriving DecidableEq, Repr

/-- `v[6:0] : c` (R122, R124, R128, R130, R132, R134). -/
def shiftLeft (v : Byte) (c : Bool) : ShiftOut :=
  { r := v.extractLsb' 0 7 ++ BitVec.ofBool c, c := bitAt v 7 }

/-- `c : v[7:1]` (R123, R125, R129, R131, R133, R135). -/
def shiftRight (v : Byte) (c : Bool) : ShiftOut :=
  { r := BitVec.ofBool c ++ v.extractLsb' 1 7, c := bitAt v 0 }

/-- RLC (R128). -/
def rlc (v : Byte) : ShiftOut := shiftLeft v (bitAt v 7)
/-- RRC (R129). -/
def rrc (v : Byte) : ShiftOut := shiftRight v (bitAt v 0)
/-- RL with the old carry (R130). -/
def rl (v : Byte) (c : Bool) : ShiftOut := shiftLeft v c
/-- RR with the old carry (R131). -/
def rr (v : Byte) (c : Bool) : ShiftOut := shiftRight v c
/-- SLA (R132). -/
def sla (v : Byte) : ShiftOut := shiftLeft v false
/-- SRA (R133). -/
def sra (v : Byte) : ShiftOut := shiftRight v (bitAt v 7)
/-- SLL: a 1 is shifted into bit 0 (R134). -/
def sll (v : Byte) : ShiftOut := shiftLeft v true
/-- SRL (R135). -/
def srl (v : Byte) : ShiftOut := shiftRight v false

/-! ## 16-bit arithmetic: two chained 8-bit operations (R141) -/

/-- A 16-bit result and a flag byte. -/
structure Alu16Out where
  r : Word
  f : Byte
deriving DecidableEq, Repr

/-- ADD XY,rr: S, Z and PV unchanged (R142). -/
def add16 (a b : Word) (old : Byte) : Alu16Out :=
  let lo := addWithCarry (loByte a) (loByte b) false
  let hi := addWithCarry (hiByte a) (hiByte b) (flagC lo.f)
  { r := mkWord hi.r lo.r
    f := packF (flagS old) (flagZ old) (bitAt hi.r 5) (flagH hi.f) (bitAt hi.r 3) (flagPV old) false (flagC hi.f) }

/-- The flags of a chain whose Z comes from the full 16-bit result (R143, R144). -/
def chainFlags (hiF lo : Byte) : Byte :=
  packF (flagS hiF) (flagZ hiF && lo == 0#8) (flag5 hiF) (flagH hiF) (flag3 hiF) (flagPV hiF) (flagN hiF) (flagC hiF)

/-- ADC HL,rr (R143). -/
def adc16 (a b : Word) (cin : Bool) : Alu16Out :=
  let lo := addWithCarry (loByte a) (loByte b) cin
  let hi := addWithCarry (hiByte a) (hiByte b) (flagC lo.f)
  { r := mkWord hi.r lo.r, f := chainFlags hi.f lo.r }

/-- SBC HL,rr (R144). -/
def sbc16 (a b : Word) (cin : Bool) : Alu16Out :=
  let lo := subWithBorrow (loByte a) (loByte b) cin
  let hi := subWithBorrow (hiByte a) (hiByte b) (flagC lo.f)
  { r := mkWord hi.r lo.r, f := chainFlags hi.f lo.r }

/-! ## Block instructions -/

/-- The flags of the transfer step: `n = A + v`, bit 5 from n[1] and bit 3 from n[3], PV is `BC != 0` (R177). -/
def ldBlockFlags (old a v : Byte) (bc : Word) : Byte :=
  let n := a + v
  packF (flagS old) (flagZ old) (bitAt n 1) false (bitAt n 3) (bc != 0#16) false (flagC old)

/-- The half borrow of the compare step: `(A ^ v ^ r)[4]` (R182). -/
def cpBlockHalf (a v : Byte) : Bool := bitAt (a ^^^ v ^^^ (a - v)) 4

/-- The flags of the compare step (R182). -/
def cpBlockFlags (old a v : Byte) (bc : Word) : Byte :=
  let r := a - v
  let h := cpBlockHalf a v
  let n := r - BitVec.ofNat 8 h.toNat
  packF (bitAt r 7) (r == 0#8) (bitAt n 1) h (bitAt n 3) (bc != 0#16) true (flagC old)

/-- The flags of the block I/O steps from the byte `v`, the integer `k` and B after the decrement (R187). -/
def ioBlockFlags (v : Byte) (k : Nat) (b : Byte) : Byte :=
  packF (bitAt b 7) (b == 0#8) (bitAt b 5) (decide (255 < k)) (bitAt b 3)
    (parity (BitVec.ofNat 8 (k % 8) ^^^ b)) (bitAt v 7) (decide (255 < k))

end Sys2Proof.Machine
end

