-- ==== Sys2Proof/Machine/Rmw.lean ====
section
/-! DEFINITION. Read-modify-write operand forms: one operand read once, an operation on it and F, the result written to the same
place (spec/40_alu8.md R106, spec/41_rotate_bit.md R126). -/

namespace Sys2Proof.Machine

/-- `A <- r; F <- f`. -/
def State.putAlu (s : State) (o : AluOut) : State := (s.setA o.r).setF o.f

/-- The operation `g` (from the old F and the operand) on a register. -/
def State.rmwR (s : State) (g : Byte → Byte → AluOut) (r : Reg8) : State :=
  let o := g s.regs.f (s.getR r)
  (s.setR r o.r).setF o.f

/-- The operation on the memory operand: one read and one write at the same address. -/
def State.rmwM (s : State) (g : Byte → Byte → AluOut) : State :=
  let o := g s.regs.f s.m
  (s.noteM.writeM o.r).setF o.f

/-- The operation on the memory operand, the result copied to a register after the write (R90, R126). -/
def State.rmwMR (s : State) (g : Byte → Byte → AluOut) (r : Reg8) : State :=
  (s.rmwM g).setR r (g s.regs.f s.m).r

/-- The operation on a half of an index register. -/
def State.rmwHalf (s : State) (g : Byte → Byte → AluOut) (x : Idx) (h : Half) : State :=
  let o := g s.regs.f (s.getHalf x h)
  (s.setHalf x h o.r).setF o.f

end Sys2Proof.Machine
end

