-- ==== Sys2Proof/Machine/Alu8.lean ====
section
/-! DEFINITION. 8-bit arithmetic and logic (spec/40_alu8.md R105 to R121). -/

namespace Sys2Proof.Machine

/-! ## The operations on A and an operand byte -/

/-- ADD A,s (R107). -/
def State.addA (s : State) (v : Byte) : State := s.putAlu (addWithCarry s.regs.a v false)
/-- ADC A,s (R108). -/
def State.adcA (s : State) (v : Byte) : State := s.putAlu (addWithCarry s.regs.a v (flagC s.regs.f))
/-- SUB s (R109). -/
def State.subA (s : State) (v : Byte) : State := s.putAlu (subWithBorrow s.regs.a v false)
/-- SBC A,s (R110). -/
def State.sbcA (s : State) (v : Byte) : State := s.putAlu (subWithBorrow s.regs.a v (flagC s.regs.f))
/-- CP s: only F is written (R111). -/
def State.cpA (s : State) (v : Byte) : State := s.setF (cpFlags s.regs.a v)
/-- NEG (R112). -/
def State.negA (s : State) : State := s.putAlu (subWithBorrow 0x00#8 s.regs.a false)
/-- A logic result and its flags. -/
def State.putLogic (s : State) (r : Byte) (h : Bool) : State := s.putAlu { r := r, f := logicFlags r h }
/-- AND s: the half carry is set (R113). -/
def State.andA (s : State) (v : Byte) : State := s.putLogic (s.regs.a &&& v) true
/-- XOR s (R114). -/
def State.xorA (s : State) (v : Byte) : State := s.putLogic (s.regs.a ^^^ v) false
/-- OR s (R115). -/
def State.orA (s : State) (v : Byte) : State := s.putLogic (s.regs.a ||| v) false

/-- INC from the old F and the operand: C is kept (R116). -/
def incOut (f v : Byte) : AluOut :=
  let o := addWithCarry v 0x01#8 false
  { r := o.r, f := keepCarry f o.f }

/-- DEC from the old F and the operand: C is kept (R117). -/
def decOut (f v : Byte) : AluOut :=
  let o := subWithBorrow v 0x01#8 false
  { r := o.r, f := keepCarry f o.f }

/-! ## The instructions -/

/-- `INC r` (R116). -/
def execIncR (r : Reg8) (s : State) : Answer := .next (s.rmwR incOut r)

/-- `INC (HL)` (R116). -/
def execIncMHl (s : State) : Answer := .next (s.selectHl.rmwM incOut)

/-- `DEC r` (R117). -/
def execDecR (r : Reg8) (s : State) : Answer := .next (s.rmwR decOut r)

/-- `DEC (HL)` (R117). -/
def execDecMHl (s : State) : Answer := .next (s.selectHl.rmwM decOut)

/-- `DAA` (R118). -/
def execDaa (s : State) : Answer := .next (s.putAlu (daa s.regs.a s.regs.f))

/-- `CPL` (R119). -/
def execCpl (s : State) : Answer := .next ((s.setA (~~~s.regs.a)).setF (cplFlags s.regs.f (~~~s.regs.a)))

/-- `SCF` (R120). -/
def execScf (s : State) : Answer := .next (s.setF (accFlags s.regs.f s.regs.a false true))

/-- `CCF` (R121). -/
def execCcf (s : State) : Answer := .next (s.setF (accFlags s.regs.f s.regs.a (flagC s.regs.f) (!flagC s.regs.f)))

/-- `ADD A,r` (R107). -/
def execAddAR (src : Reg8) (s : State) : Answer := .next (s.addA (s.getR src))

/-- `ADD A,(HL)` (R107). -/
def execAddAMHl (s : State) : Answer := .next (s.selectHl.withM State.addA)

/-- `ADD A,n` (R107). -/
def execAddAN (n : Byte) (s : State) : Answer := .next (s.addA n)

/-- `ADC A,r` (R108). -/
def execAdcAR (src : Reg8) (s : State) : Answer := .next (s.adcA (s.getR src))

/-- `ADC A,(HL)` (R108). -/
def execAdcAMHl (s : State) : Answer := .next (s.selectHl.withM State.adcA)

/-- `ADC A,n` (R108). -/
def execAdcAN (n : Byte) (s : State) : Answer := .next (s.adcA n)

/-- `SUB r` (R109). -/
def execSubR (src : Reg8) (s : State) : Answer := .next (s.subA (s.getR src))

/-- `SUB (HL)` (R109). -/
def execSubMHl (s : State) : Answer := .next (s.selectHl.withM State.subA)

/-- `SUB n` (R109). -/
def execSubN (n : Byte) (s : State) : Answer := .next (s.subA n)

/-- `SBC A,r` (R110). -/
def execSbcAR (src : Reg8) (s : State) : Answer := .next (s.sbcA (s.getR src))

/-- `SBC A,(HL)` (R110). -/
def execSbcAMHl (s : State) : Answer := .next (s.selectHl.withM State.sbcA)

/-- `SBC A,n` (R110). -/
def execSbcAN (n : Byte) (s : State) : Answer := .next (s.sbcA n)

/-- `AND r` (R113). -/
def execAndR (src : Reg8) (s : State) : Answer := .next (s.andA (s.getR src))

/-- `AND (HL)` (R113). -/
def execAndMHl (s : State) : Answer := .next (s.selectHl.withM State.andA)

/-- `AND n` (R113). -/
def execAndN (n : Byte) (s : State) : Answer := .next (s.andA n)

/-- `XOR r` (R114). -/
def execXorR (src : Reg8) (s : State) : Answer := .next (s.xorA (s.getR src))

/-- `XOR (HL)` (R114). -/
def execXorMHl (s : State) : Answer := .next (s.selectHl.withM State.xorA)

/-- `XOR n` (R114). -/
def execXorN (n : Byte) (s : State) : Answer := .next (s.xorA n)

/-- `OR r` (R115). -/
def execOrR (src : Reg8) (s : State) : Answer := .next (s.orA (s.getR src))

/-- `OR (HL)` (R115). -/
def execOrMHl (s : State) : Answer := .next (s.selectHl.withM State.orA)

/-- `OR n` (R115). -/
def execOrN (n : Byte) (s : State) : Answer := .next (s.orA n)

/-- `CP r` (R111). -/
def execCpR (src : Reg8) (s : State) : Answer := .next (s.cpA (s.getR src))

/-- `CP (HL)` (R111). -/
def execCpMHl (s : State) : Answer := .next (s.selectHl.withM State.cpA)

/-- `CP n` (R111). -/
def execCpN (n : Byte) (s : State) : Answer := .next (s.cpA n)

/-- `NEG` (R112). -/
def execNeg (s : State) : Answer := .next s.negA

/-- `NEG (mirror)` (R112). -/
def execNegMirror (y : BitVec 3) (s : State) : Answer := .next (s.ifRecognized (.negMirror y) State.negA)

/-- `INC (XY+d)` (R116). -/
def execIncMXy (x : Idx) (d : Byte) (s : State) : Answer := .next ((s.selectXy x d).rmwM incOut)

/-- `DEC (XY+d)` (R117). -/
def execDecMXy (x : Idx) (d : Byte) (s : State) : Answer := .next ((s.selectXy x d).rmwM decOut)

/-- `ADD A,(XY+d)` (R107). -/
def execAddAMXy (x : Idx) (d : Byte) (s : State) : Answer := .next ((s.selectXy x d).withM State.addA)

/-- `ADC A,(XY+d)` (R108). -/
def execAdcAMXy (x : Idx) (d : Byte) (s : State) : Answer := .next ((s.selectXy x d).withM State.adcA)

/-- `SUB (XY+d)` (R109). -/
def execSubMXy (x : Idx) (d : Byte) (s : State) : Answer := .next ((s.selectXy x d).withM State.subA)

/-- `SBC A,(XY+d)` (R110). -/
def execSbcAMXy (x : Idx) (d : Byte) (s : State) : Answer := .next ((s.selectXy x d).withM State.sbcA)

/-- `AND (XY+d)` (R113). -/
def execAndMXy (x : Idx) (d : Byte) (s : State) : Answer := .next ((s.selectXy x d).withM State.andA)

/-- `XOR (XY+d)` (R114). -/
def execXorMXy (x : Idx) (d : Byte) (s : State) : Answer := .next ((s.selectXy x d).withM State.xorA)

/-- `OR (XY+d)` (R115). -/
def execOrMXy (x : Idx) (d : Byte) (s : State) : Answer := .next ((s.selectXy x d).withM State.orA)

/-- `CP (XY+d)` (R111). -/
def execCpMXy (x : Idx) (d : Byte) (s : State) : Answer := .next ((s.selectXy x d).withM State.cpA)

/-- `INC XYH/XYL` (R116). -/
def execIncXyHalf (x : Idx) (h : Half) (s : State) : Answer :=
  .next (s.ifRecognized (.incXyHalf x h) (fun t => t.rmwHalf incOut x h))

/-- `DEC XYH/XYL` (R117). -/
def execDecXyHalf (x : Idx) (h : Half) (s : State) : Answer :=
  .next (s.ifRecognized (.decXyHalf x h) (fun t => t.rmwHalf decOut x h))

/-- `ADD A,XYH/XYL` (R107). -/
def execAddAXyHalf (x : Idx) (h : Half) (s : State) : Answer :=
  .next (s.ifRecognized (.addAXyHalf x h) (fun t => t.addA (t.getHalf x h)))

/-- `ADC A,XYH/XYL` (R108). -/
def execAdcAXyHalf (x : Idx) (h : Half) (s : State) : Answer :=
  .next (s.ifRecognized (.adcAXyHalf x h) (fun t => t.adcA (t.getHalf x h)))

/-- `SUB XYH/XYL` (R109). -/
def execSubXyHalf (x : Idx) (h : Half) (s : State) : Answer :=
  .next (s.ifRecognized (.subXyHalf x h) (fun t => t.subA (t.getHalf x h)))

/-- `SBC A,XYH/XYL` (R110). -/
def execSbcAXyHalf (x : Idx) (h : Half) (s : State) : Answer :=
  .next (s.ifRecognized (.sbcAXyHalf x h) (fun t => t.sbcA (t.getHalf x h)))

/-- `AND XYH/XYL` (R113). -/
def execAndXyHalf (x : Idx) (h : Half) (s : State) : Answer :=
  .next (s.ifRecognized (.andXyHalf x h) (fun t => t.andA (t.getHalf x h)))

/-- `XOR XYH/XYL` (R114). -/
def execXorXyHalf (x : Idx) (h : Half) (s : State) : Answer :=
  .next (s.ifRecognized (.xorXyHalf x h) (fun t => t.xorA (t.getHalf x h)))

/-- `OR XYH/XYL` (R115). -/
def execOrXyHalf (x : Idx) (h : Half) (s : State) : Answer :=
  .next (s.ifRecognized (.orXyHalf x h) (fun t => t.orA (t.getHalf x h)))

/-- `CP XYH/XYL` (R111). -/
def execCpXyHalf (x : Idx) (h : Half) (s : State) : Answer :=
  .next (s.ifRecognized (.cpXyHalf x h) (fun t => t.cpA (t.getHalf x h)))

end Sys2Proof.Machine
end

