-- ==== Sys2Proof/Machine/Arith16.lean ====
section
/-! DEFINITION. 16-bit arithmetic (spec/42_arith16.md R141 to R146). -/

namespace Sys2Proof.Machine

/-- `HL <- r; F <- f`. -/
def State.putHl16 (s : State) (o : Alu16Out) : State := (s.setHl o.r).setF o.f

/-- `XY <- r; F <- f`. -/
def State.putXy16 (s : State) (x : Idx) (o : Alu16Out) : State := (s.setIdx x o.r).setF o.f

/-! ## The instructions -/

/-- `INC rp` (R145). -/
def execIncRp (p : Pair) (s : State) : Answer := .next (s.setRp p (s.getRp p + 1))

/-- `DEC rp` (R146). -/
def execDecRp (p : Pair) (s : State) : Answer := .next (s.setRp p (s.getRp p - 1))

/-- `ADD HL,rp` (R142). -/
def execAddHlRp (p : Pair) (s : State) : Answer := .next (s.putHl16 (add16 s.hl (s.getRp p) s.regs.f))

/-- `SBC HL,rp` (R144). -/
def execSbcHlRp (p : Pair) (s : State) : Answer := .next (s.putHl16 (sbc16 s.hl (s.getRp p) (flagC s.regs.f)))

/-- `ADC HL,rp` (R143). -/
def execAdcHlRp (p : Pair) (s : State) : Answer := .next (s.putHl16 (adc16 s.hl (s.getRp p) (flagC s.regs.f)))

/-- `ADD XY,rp` (R142). -/
def execAddXyRp (x : Idx) (p : XyPair) (s : State) : Answer :=
  .next (s.putXy16 x (add16 (s.getIdx x) (s.getXyRp x p) s.regs.f))

/-- `INC XY` (R145). -/
def execIncXy (x : Idx) (s : State) : Answer := .next (s.setIdx x (s.getIdx x + 1))

/-- `DEC XY` (R146). -/
def execDecXy (x : Idx) (s : State) : Answer := .next (s.setIdx x (s.getIdx x - 1))

end Sys2Proof.Machine
end

