-- ==== Sys2Proof/Machine/Block.lean ====
section
/-! DEFINITION. Block instructions (spec/44_block.md R175 to R196). -/

namespace Sys2Proof.Machine

/-- `dir` of the incrementing forms (R175). -/
def stepUp : Word := 0x0001#16
/-- `dir` of the decrementing forms, -1 modulo 2^16 (R175). -/
def stepDown : Word := 0xFFFF#16

/-- `LdStep(dir)` (R177). -/
def State.ldStep (s : State) (dir : Word) : State :=
  let v := s.peek s.hl
  ((((s.noteRead s.hl).write8 s.de v).setHl (s.hl + dir)).setDe (s.de + dir)).setBc (s.bc - 1) |>.setF
    (ldBlockFlags s.regs.f s.regs.a v (s.bc - 1))

/-- `CpStep(dir)` (R182). -/
def State.cpStep (s : State) (dir : Word) : State :=
  (((s.noteRead s.hl).setHl (s.hl + dir)).setBc (s.bc - 1)).setF
    (cpBlockFlags s.regs.f s.regs.a (s.peek s.hl) (s.bc - 1))

/-- `InStep(dir)`: the port is BC before B is decremented (R188, D15). -/
def State.inStep (s : State) (dir : Word) : State :=
  let v := s.ioValue s.bc
  let b := s.regs.b - 1
  let k := v.toNat + (s.regs.c + loByte dir).toNat
  ((((s.ioRead s.bc).write8 s.hl v).setHl (s.hl + dir)).setB b).setF (ioBlockFlags v k b)

/-- `OutStep(dir)`: the port is BC after B is decremented (R188, D15). -/
def State.outStep (s : State) (dir : Word) : State :=
  let v := s.peek s.hl
  let b := s.regs.b - 1
  let k := v.toNat + (loByte (s.hl + dir)).toNat
  ((((s.noteRead s.hl).ioWrite (mkWord b s.regs.c) v).setHl (s.hl + dir)).setB b).setF (ioBlockFlags v k b)

/-- `again` after LDI and LDD: `BC != 0` (R175). -/
def State.ldAgain (s : State) : Bool := s.bc != 0x0000#16
/-- `again` after CPI and CPD: `BC != 0` and `Z = 0` (R175). -/
def State.cpAgain (s : State) : Bool := s.bc != 0x0000#16 && !flagZ s.regs.f
/-- `again` after the block I/O steps: `B != 0` (R175). -/
def State.ioAgain (s : State) : Bool := s.regs.b != 0x00#8

/-- A repeating form after its step: PC goes back to the ED byte, at the extra cost, while `again` holds (R176). -/
def State.repeatIf (s : State) (i : Instr) (again : State → Bool) : State :=
  if again s then { s with pc := s.pc - 2 }.chargeExtra i else s

/-! ## The instructions -/

/-- `LDI` (R178). -/
def execLdi (s : State) : Answer := .next (s.ldStep stepUp)

/-- `LDD` (R179). -/
def execLdd (s : State) : Answer := .next (s.ldStep stepDown)

/-- `LDIR` (R180). -/
def execLdir (s : State) : Answer := .next ((s.ldStep stepUp).repeatIf .ldir State.ldAgain)

/-- `LDDR` (R181). -/
def execLddr (s : State) : Answer := .next ((s.ldStep stepDown).repeatIf .lddr State.ldAgain)

/-- `CPI` (R183). -/
def execCpi (s : State) : Answer := .next (s.cpStep stepUp)

/-- `CPD` (R184). -/
def execCpd (s : State) : Answer := .next (s.cpStep stepDown)

/-- `CPIR` (R185). -/
def execCpir (s : State) : Answer := .next ((s.cpStep stepUp).repeatIf .cpir State.cpAgain)

/-- `CPDR` (R186). -/
def execCpdr (s : State) : Answer := .next ((s.cpStep stepDown).repeatIf .cpdr State.cpAgain)

/-- `INI` (R189). -/
def execIni (s : State) : Answer := .next (s.ifRecognized (.ini) (fun t => t.inStep stepUp))

/-- `IND` (R190). -/
def execInd (s : State) : Answer := .next (s.ifRecognized (.ind) (fun t => t.inStep stepDown))

/-- `INIR` (R191). -/
def execInir (s : State) : Answer :=
  .next (s.ifRecognized (.inir) (fun t => (t.inStep stepUp).repeatIf .inir State.ioAgain))

/-- `INDR` (R192). -/
def execIndr (s : State) : Answer :=
  .next (s.ifRecognized (.indr) (fun t => (t.inStep stepDown).repeatIf .indr State.ioAgain))

/-- `OUTI` (R193). -/
def execOuti (s : State) : Answer := .next (s.ifRecognized (.outi) (fun t => t.outStep stepUp))

/-- `OUTD` (R194). -/
def execOutd (s : State) : Answer := .next (s.ifRecognized (.outd) (fun t => t.outStep stepDown))

/-- `OTIR` (R195). -/
def execOtir (s : State) : Answer :=
  .next (s.ifRecognized (.otir) (fun t => (t.outStep stepUp).repeatIf .otir State.ioAgain))

/-- `OTDR` (R196). -/
def execOtdr (s : State) : Answer :=
  .next (s.ifRecognized (.otdr) (fun t => (t.outStep stepDown).repeatIf .otdr State.ioAgain))

end Sys2Proof.Machine
end

