-- ==== Sys2Proof/Machine/Control.lean ====
section
/-! DEFINITION. Control transfer (spec/45_control.md R197 to R209). -/

namespace Sys2Proof.Machine

/-- An effect that a condition guards. -/
def State.when (s : State) (c : Bool) (op : State → State) : State := if c then op s else s

/-- `PC <- PC + sext_16(e)`, PC being after the offset byte (R78, R200). -/
def State.jumpRel (s : State) (e : Byte) : State := s.setPc (s.pc + sext e)

/-- `Push16(PC); PC <- target` (R203). -/
def State.call (s : State) (target : Word) : State := (s.push16 s.pc).setPc target

/-- `zext_16(t * 8)` (R74, R205). -/
def rstTarget (t : BitVec 3) : Word := BitVec.ofNat 16 (t.toNat * 8)

/-- `PC <- Pop16()` (R206). -/
def State.ret (s : State) : State := s.dropTop.setPc s.top16

/-! ## The instructions -/

/-- `DJNZ e` (R202). No flag is written. -/
def execDjnz (e : Byte) (s : State) : Answer :=
  .next ((s.setB (s.regs.b - 1)).when (s.regs.b - 1 != 0) (fun t => (t.jumpRel e).chargeExtra (.djnz e)))

/-- `JR e` (R200). -/
def execJr (e : Byte) (s : State) : Answer := .next (s.jumpRel e)

/-- `JR cc,e` (R201). -/
def execJrCc (cc : JrCond) (e : Byte) (s : State) : Answer :=
  .next (s.when (s.cond cc.cond) (fun t => (t.jumpRel e).chargeExtra (.jrCc cc e)))

/-- `RET cc` (R207). -/
def execRetCc (cc : Cond) (s : State) : Answer := .next (s.when (s.cond cc) (fun t => t.ret.chargeExtra (.retCc cc)))

/-- `RET` (R206). -/
def execRet (s : State) : Answer := .next s.ret

/-- `JP (HL)` (R199). -/
def execJpHl (s : State) : Answer := .next (s.setPc s.hl)

/-- `JP cc,nn` (R198). Its conditional extra is 0 in the default table (R256). -/
def execJpCcNn (cc : Cond) (nn : Word) (s : State) : Answer :=
  .next (s.when (s.cond cc) (fun t => (t.setPc nn).chargeExtra (.jpCcNn cc nn)))

/-- `JP nn` (R197). -/
def execJpNn (nn : Word) (s : State) : Answer := .next (s.setPc nn)

/-- `CALL cc,nn` (R204). -/
def execCallCcNn (cc : Cond) (nn : Word) (s : State) : Answer :=
  .next (s.when (s.cond cc) (fun t => (t.call nn).chargeExtra (.callCcNn cc nn)))

/-- `CALL nn` (R203). -/
def execCallNn (nn : Word) (s : State) : Answer := .next (s.call nn)

/-- `RST p` (R205). -/
def execRst (t : BitVec 3) (s : State) : Answer := .next (s.call (rstTarget t))

/-- `RETN` (R208). -/
def execRetn (s : State) : Answer := .next s.returnFromInt

/-- `RETI` (R209). No daisy chain: the core has no peripheral interrupt chain (R209). -/
def execReti (s : State) : Answer := .next s.returnFromInt

/-- `RETN (mirror)` (R208). As RETN, where it is recognized. -/
def execRetnMirror (y : BitVec 3) (s : State) : Answer := .next (s.ifRecognized (.retnMirror y) State.returnFromInt)

/-- `JP (XY)` (R199). -/
def execJpXy (x : Idx) (s : State) : Answer := .next (s.setPc (s.getIdx x))

end Sys2Proof.Machine
end

