-- ==== Sys2Proof/Machine/CpuControl.lean ====
section
/-! DEFINITION. CPU control (spec/47_cpu_control.md R216 to R222), the holes of the ED table (spec/30_encoding.md R94) and the
prefix bytes that are steps of their own (R81, R84, R87, R88, notes/assumptions/6.md). -/

namespace Sys2Proof.Machine

/-- `NOP` (R216). -/
def execNop (s : State) : Answer := .next s

/-- `HALT` (R217). PC is already past the HALT byte (D18). -/
def execHalt (s : State) : Answer := .next { s with halted := true }

/-- `DI` (R218). -/
def execDi (s : State) : Answer := .next { s with iff0 := false, iff1 := false }

/-- `EI` (R219). No delay (D20). -/
def execEi (s : State) : Answer := .next { s with iff0 := true, iff1 := true }

/-- `prefix CB` (R83). The next byte is a CB opcode (R81). -/
def execPrefixCb (s : State) : Answer := .next { s with pfx := .cb }

/-- `prefix ED` (R83). An index prefix before ED is void (R88). -/
def execPrefixEd (s : State) : Answer := .next { s with pfx := .ed, xySel := .hl }

/-- `prefix DD` (R83). A DD byte alone selects IX; the last index prefix wins (R84). -/
def execPrefixDd (s : State) : Answer := .next { s with xySel := .ix }

/-- `prefix FD` (R83). An FD byte alone selects IY; the last index prefix wins (R84). -/
def execPrefixFd (s : State) : Answer := .next { s with xySel := .iy }

/-- `IM 0` (R220). -/
def execIm0 (s : State) : Answer := .next { s with im := .im0 }

/-- `IM 1` (R221). -/
def execIm1 (s : State) : Answer := .next { s with im := .im1 }

/-- `IM 2` (R222). -/
def execIm2 (s : State) : Answer := .next { s with im := .im2 }

/-- `IM 0 (mirror)` (R220). -/
def execIm0Mirror (y : BitVec 3) (s : State) : Answer :=
  .next (s.ifRecognized (.im0Mirror y) (fun t => { t with im := .im0 }))

/-- `IM 1 (mirror)` (R221). -/
def execIm1Mirror (s : State) : Answer := .next (s.ifRecognized (.im1Mirror) (fun t => { t with im := .im1 }))

/-- `IM 2 (mirror)` (R222). -/
def execIm2Mirror (s : State) : Answer := .next (s.ifRecognized (.im2Mirror) (fun t => { t with im := .im2 }))

/-- `ED hole` (R94). It is a two-byte no-op under ED_HOLES = nop and an unknown opcode otherwise. -/
def execEdHole (o : Byte) (s : State) : Answer := .next (s.ifRecognized (.edHole o) id)

/-- `XY prefix, HL not used` (R87). The prefix byte: the selector is set and the opcode, the next instruction, does not use it. -/
def execXyPrefixHlNotUsed (x : Idx) (_o : Byte) (s : State) : Answer := .next { s with xySel := idxSel x }

/-- `XY prefix before ED` (R88). The prefix byte: the selector is set, and ED sets it back to HL. -/
def execXyPrefixBeforeEd (x : Idx) (s : State) : Answer := .next { s with xySel := idxSel x }

end Sys2Proof.Machine
end

