-- ==== Sys2Proof/Machine/Io.lean ====
section
/-! DEFINITION. Port input and output (spec/46_io.md R210 to R215). -/

namespace Sys2Proof.Machine

/-- `IN A,(n)`: the port is A : n with the old A (R58, R210). -/
def State.inputA (s : State) (n : Byte) : State :=
  let port := mkWord s.regs.a n
  (s.ioRead port).setA (s.ioValue port)

/-- An input from port BC that sets the flags (R212, R213). -/
def State.inputBc (s : State) : State :=
  (s.ioRead s.bc).setF (inFlags s.regs.f (s.ioValue s.bc))

/-! ## The instructions -/

/-- `OUT (n),A` (R211). -/
def execOutNA (n : Byte) (s : State) : Answer := .next (s.ioWrite (mkWord s.regs.a n) s.regs.a)

/-- `IN A,(n)` (R210). -/
def execInAN (n : Byte) (s : State) : Answer := .next (s.inputA n)

/-- `IN r,(C)` (R212). -/
def execInRC (r : Reg8) (s : State) : Answer := .next (s.inputBc.setR r (s.ioValue s.bc))

/-- `IN (C)` (R213). -/
def execInC (s : State) : Answer := .next (s.ifRecognized (.inC) State.inputBc)

/-- `OUT (C),r` (R214). -/
def execOutCR (r : Reg8) (s : State) : Answer := .next (s.ioWrite s.bc (s.getR r))

/-- `OUT (C),0` (R215). -/
def execOutC0 (s : State) : Answer := .next (s.ifRecognized (.outC0) (fun t => t.ioWrite t.bc 0x00#8))

end Sys2Proof.Machine
end

