-- ==== Sys2Proof/Machine/Load.lean ====
section
/-! DEFINITION. Loads, stack and exchanges (spec/43_load_exchange.md R147 to R174). -/

namespace Sys2Proof.Machine

/-- `A <- MemRead(a, 1)` (R153 to R155). -/
def State.loadA (s : State) (a : Word) : State := (s.noteRead a).setA (s.peek a)

/-- `LD A,I` and `LD A,R` from the value read: PV is IFF1 (R161, R162). -/
def State.loadAir (s : State) (v : Byte) : State := (s.setA v).setF (ldAirFlags s.regs.f v s.iff1)

/-- The value `LD A,R` reads under R_MODEL = draw: bit 7 of R and a fresh 7-bit draw (R162). -/
def State.drawnR (s : State) : Byte := (s.r &&& 0x80#8) ||| (s.drawn &&& 0x7F#8)

/-- `LD A,R` by R_MODEL (R162, D17). -/
def State.loadAFromR (s : State) : State :=
  match s.params.rModel with
  | .m1 => s.loadAir s.r
  | .draw => s.afterDraw.loadAir s.drawnR

/-- AF and AF' exchanged (R172). -/
def State.swapAf (s : State) : State :=
  { s with
    regs := { s.regs with a := s.shadow.a, f := s.shadow.f }
    shadow := { s.shadow with a := s.regs.a, f := s.regs.f } }

/-- BC, DE and HL exchanged with their shadows; A and F stay (R173). -/
def State.swapBcDeHl (s : State) : State :=
  { s with
    regs := { s.shadow with a := s.regs.a, f := s.regs.f }
    shadow := { s.regs with a := s.shadow.a, f := s.shadow.f } }

/-! ## The instructions -/

/-- `LD rp,nn` (R163). -/
def execLdRpNn (p : Pair) (nn : Word) (s : State) : Answer := .next (s.setRp p nn)

/-- `LD (BC),A` (R156). -/
def execLdMBcA (s : State) : Answer := .next (s.write8 s.bc s.regs.a)

/-- `LD (DE),A` (R157). -/
def execLdMDeA (s : State) : Answer := .next (s.write8 s.de s.regs.a)

/-- `LD (nn),HL` (R165). -/
def execLdMNnHl (nn : Word) (s : State) : Answer := .next (s.write16 nn s.hl)

/-- `LD (nn),A` (R158). -/
def execLdMNnA (nn : Word) (s : State) : Answer := .next (s.write8 nn s.regs.a)

/-- `LD A,(BC)` (R153). -/
def execLdAMBc (s : State) : Answer := .next (s.loadA s.bc)

/-- `LD A,(DE)` (R154). -/
def execLdAMDe (s : State) : Answer := .next (s.loadA s.de)

/-- `LD HL,(nn)` (R164). -/
def execLdHlMNn (nn : Word) (s : State) : Answer := .next ((s.noteRead16 nn).setHl (s.peek16 nn))

/-- `LD A,(nn)` (R155). -/
def execLdAMNn (nn : Word) (s : State) : Answer := .next (s.loadA nn)

/-- `LD r,n` (R149). -/
def execLdRN (r : Reg8) (n : Byte) (s : State) : Answer := .next (s.setR r n)

/-- `LD (HL),n` (R152). -/
def execLdMHlN (n : Byte) (s : State) : Answer := .next (s.selectHl.writeM n)

/-- `EX AF,AF'` (R172). -/
def execExAfAf (s : State) : Answer := .next s.swapAf

/-- `LD r,r'` (R148). -/
def execLdRR (r : Reg8) (src : Reg8) (s : State) : Answer := .next (s.setR r (s.getR src))

/-- `LD r,(HL)` (R150). -/
def execLdRMHl (r : Reg8) (s : State) : Answer := .next (s.selectHl.withM (fun t v => t.setR r v))

/-- `LD (HL),r` (R151). -/
def execLdMHlR (src : Reg8) (s : State) : Answer := .next (s.selectHl.writeM (s.getR src))

/-- `POP qq` (R170). -/
def execPopQq (p : StackPair) (s : State) : Answer := .next (s.dropTop.setQq p s.top16)

/-- `EXX` (R173). -/
def execExx (s : State) : Answer := .next s.swapBcDeHl

/-- `LD SP,HL` (R168). -/
def execLdSpHl (s : State) : Answer := .next (s.setSp s.hl)

/-- `EX (SP),HL` (R174). -/
def execExMSpHl (s : State) : Answer := .next (((s.noteRead16 s.sp).write16 s.sp s.hl).setHl s.top16)

/-- `EX DE,HL` (R171). -/
def execExDeHl (s : State) : Answer := .next ((s.setDe s.hl).setHl s.de)

/-- `PUSH qq` (R169). -/
def execPushQq (p : StackPair) (s : State) : Answer := .next (s.push16 (s.getQq p))

/-- `LD (nn),rp` (R167). -/
def execLdMNnRp (p : Pair) (nn : Word) (s : State) : Answer := .next (s.write16 nn (s.getRp p))

/-- `LD rp,(nn)` (R166). -/
def execLdRpMNn (p : Pair) (nn : Word) (s : State) : Answer := .next ((s.noteRead16 nn).setRp p (s.peek16 nn))

/-- `LD I,A` (R159). -/
def execLdIA (s : State) : Answer := .next { s with i := s.regs.a }

/-- `LD R,A` (R160). -/
def execLdRA (s : State) : Answer := .next { s with r := s.regs.a }

/-- `LD A,I` (R161). -/
def execLdAI (s : State) : Answer := .next (s.loadAir s.i)

/-- `LD A,R` (R162). Under R_MODEL = draw bits 6:0 are a draw. -/
def execLdAR (s : State) : Answer := .next s.loadAFromR

/-- `LD XY,nn` (R163). -/
def execLdXyNn (x : Idx) (nn : Word) (s : State) : Answer := .next (s.setIdx x nn)

/-- `LD (nn),XY` (R165). -/
def execLdMNnXy (x : Idx) (nn : Word) (s : State) : Answer := .next (s.write16 nn (s.getIdx x))

/-- `LD XY,(nn)` (R164). -/
def execLdXyMNn (x : Idx) (nn : Word) (s : State) : Answer := .next ((s.noteRead16 nn).setIdx x (s.peek16 nn))

/-- `LD (XY+d),n` (R152). -/
def execLdMXyN (x : Idx) (d : Byte) (n : Byte) (s : State) : Answer := .next ((s.selectXy x d).writeM n)

/-- `LD r,(XY+d)` (R150). -/
def execLdRMXy (x : Idx) (r : Reg8) (d : Byte) (s : State) : Answer :=
  .next ((s.selectXy x d).withM (fun t v => t.setR r v))

/-- `LD (XY+d),r` (R151). -/
def execLdMXyR (x : Idx) (d : Byte) (src : Reg8) (s : State) : Answer := .next ((s.selectXy x d).writeM (s.getR src))

/-- `POP XY` (R170). -/
def execPopXy (x : Idx) (s : State) : Answer := .next (s.dropTop.setIdx x s.top16)

/-- `PUSH XY` (R169). -/
def execPushXy (x : Idx) (s : State) : Answer := .next (s.push16 (s.getIdx x))

/-- `EX (SP),XY` (R174). -/
def execExMSpXy (x : Idx) (s : State) : Answer :=
  .next (((s.noteRead16 s.sp).write16 s.sp (s.getIdx x)).setIdx x s.top16)

/-- `LD SP,XY` (R168). -/
def execLdSpXy (x : Idx) (s : State) : Answer := .next (s.setSp (s.getIdx x))

/-- `LD XYH/XYL,n` (R149). -/
def execLdXyHalfN (x : Idx) (h : Half) (n : Byte) (s : State) : Answer :=
  .next (s.ifRecognized (.ldXyHalfN x h n) (fun t => t.setHalf x h n))

/-- `LD r,XYH/XYL` (R148). -/
def execLdRXyHalf (x : Idx) (r : Reg8) (h : Half) (s : State) : Answer :=
  .next (s.ifRecognized (.ldRXyHalf x r h) (fun t => t.setR r (t.getHalf x h)))

/-- `LD XYH/XYL,s` (R148). -/
def execLdXyHalfS (x : Idx) (h : Half) (src : HalfSrc) (s : State) : Answer :=
  .next (s.ifRecognized (.ldXyHalfS x h src) (fun t => t.setHalf x h (t.getHalfSrc x src)))

end Sys2Proof.Machine
end

