-- ==== Sys2Proof/Machine/Rotate.lean ====
section
/-! DEFINITION. Rotates, shifts, bit operations and digit rotates (spec/41_rotate_bit.md R122 to R140). -/

namespace Sys2Proof.Machine

/-- A shift's result with the flags of R127. -/
def shiftOut (o : ShiftOut) : AluOut := { r := o.r, f := shiftFlags o.r o.c }

/-- RLC of an operand (R128). The old F is not used. -/
def rlcOut (_f v : Byte) : AluOut := shiftOut (rlc v)
/-- RRC of an operand (R129). The old F is not used. -/
def rrcOut (_f v : Byte) : AluOut := shiftOut (rrc v)
/-- RL of an operand: the old carry is shifted in (R130). -/
def rlOut (f v : Byte) : AluOut := shiftOut (rl v (flagC f))
/-- RR of an operand: the old carry is shifted in (R131). -/
def rrOut (f v : Byte) : AluOut := shiftOut (rr v (flagC f))
/-- SLA of an operand (R132). The old F is not used. -/
def slaOut (_f v : Byte) : AluOut := shiftOut (sla v)
/-- SRA of an operand (R133). The old F is not used. -/
def sraOut (_f v : Byte) : AluOut := shiftOut (sra v)
/-- SLL of an operand (R134). The old F is not used. -/
def sllOut (_f v : Byte) : AluOut := shiftOut (sll v)
/-- SRL of an operand (R135). The old F is not used. -/
def srlOut (_f v : Byte) : AluOut := shiftOut (srl v)

/-- RES b: F is unchanged (R137). -/
def resOut (b : BitVec 3) (f v : Byte) : AluOut := { r := v &&& ~~~(1#8 <<< b.toNat), f := f }
/-- SET b: F is unchanged (R138). -/
def setOut (b : BitVec 3) (f v : Byte) : AluOut := { r := v ||| (1#8 <<< b.toNat), f := f }

/-- The accumulator rotates: only C, H, N and bits 5 and 3 are written (R122 to R125). -/
def State.rotateA (s : State) (o : ShiftOut) : State :=
  s.putAlu { r := o.r, f := accFlags s.regs.f o.r false o.c }

/-- BIT b of a byte; `src` gives bits 5 and 3 (R136). -/
def State.testBit (s : State) (b : BitVec 3) (v src : Byte) : State :=
  s.setF (bitFlags s.regs.f v src b.toNat)

/-- BIT b of the memory operand: one read, bits 5 and 3 from the high byte of the effective address (R136, D22). -/
def State.testBitM (s : State) (b : BitVec 3) : State :=
  s.withM (fun t v => t.testBit b v (hiByte t.ea))

/-- The digits after RLD or RRD: the new A and the new memory byte. -/
structure DigitsOut where
  a : Byte
  m : Byte
deriving DecidableEq, Repr

/-- RLD (R139). -/
def rldOut (a m : Byte) : DigitsOut :=
  { a := a.extractLsb' 4 4 ++ m.extractLsb' 4 4, m := m.extractLsb' 0 4 ++ a.extractLsb' 0 4 }

/-- RRD (R140). -/
def rrdOut (a m : Byte) : DigitsOut :=
  { a := a.extractLsb' 4 4 ++ m.extractLsb' 0 4, m := a.extractLsb' 0 4 ++ m.extractLsb' 4 4 }

/-- RLD and RRD: (HL) is read, then written, then A and F (R139, R140). -/
def State.rotateDigits (s : State) (o : DigitsOut) : State :=
  (((s.noteRead s.hl).write8 s.hl o.m).setA o.a).setF (inFlags s.regs.f o.a)

/-! ## The instructions -/

/-- `RLCA` (R122). -/
def execRlca (s : State) : Answer := .next (s.rotateA (rlc s.regs.a))

/-- `RRCA` (R123). -/
def execRrca (s : State) : Answer := .next (s.rotateA (rrc s.regs.a))

/-- `RLA` (R124). -/
def execRla (s : State) : Answer := .next (s.rotateA (rl s.regs.a (flagC s.regs.f)))

/-- `RRA` (R125). -/
def execRra (s : State) : Answer := .next (s.rotateA (rr s.regs.a (flagC s.regs.f)))

/-- `RLC r` (R128). -/
def execRlcR (src : Reg8) (s : State) : Answer := .next (s.rmwR rlcOut src)

/-- `RLC (HL)` (R128). -/
def execRlcMHl (s : State) : Answer := .next (s.selectHl.rmwM rlcOut)

/-- `RRC r` (R129). -/
def execRrcR (src : Reg8) (s : State) : Answer := .next (s.rmwR rrcOut src)

/-- `RRC (HL)` (R129). -/
def execRrcMHl (s : State) : Answer := .next (s.selectHl.rmwM rrcOut)

/-- `RL r` (R130). -/
def execRlR (src : Reg8) (s : State) : Answer := .next (s.rmwR rlOut src)

/-- `RL (HL)` (R130). -/
def execRlMHl (s : State) : Answer := .next (s.selectHl.rmwM rlOut)

/-- `RR r` (R131). -/
def execRrR (src : Reg8) (s : State) : Answer := .next (s.rmwR rrOut src)

/-- `RR (HL)` (R131). -/
def execRrMHl (s : State) : Answer := .next (s.selectHl.rmwM rrOut)

/-- `SLA r` (R132). -/
def execSlaR (src : Reg8) (s : State) : Answer := .next (s.rmwR slaOut src)

/-- `SLA (HL)` (R132). -/
def execSlaMHl (s : State) : Answer := .next (s.selectHl.rmwM slaOut)

/-- `SRA r` (R133). -/
def execSraR (src : Reg8) (s : State) : Answer := .next (s.rmwR sraOut src)

/-- `SRA (HL)` (R133). -/
def execSraMHl (s : State) : Answer := .next (s.selectHl.rmwM sraOut)

/-- `SLL r` (R134). -/
def execSllR (src : Reg8) (s : State) : Answer := .next (s.rmwR sllOut src)

/-- `SLL (HL)` (R134). -/
def execSllMHl (s : State) : Answer := .next (s.selectHl.rmwM sllOut)

/-- `SRL r` (R135). -/
def execSrlR (src : Reg8) (s : State) : Answer := .next (s.rmwR srlOut src)

/-- `SRL (HL)` (R135). -/
def execSrlMHl (s : State) : Answer := .next (s.selectHl.rmwM srlOut)

/-- `BIT b,r` (R136). -/
def execBitBR (b : BitVec 3) (src : Reg8) (s : State) : Answer := .next (s.testBit b (s.getR src) (s.getR src))

/-- `BIT b,(HL)` (R136). -/
def execBitBMHl (b : BitVec 3) (s : State) : Answer := .next (s.selectHl.testBitM b)

/-- `RES b,r` (R137). -/
def execResBR (b : BitVec 3) (src : Reg8) (s : State) : Answer := .next (s.rmwR (resOut b) src)

/-- `RES b,(HL)` (R137). -/
def execResBMHl (b : BitVec 3) (s : State) : Answer := .next (s.selectHl.rmwM (resOut b))

/-- `SET b,r` (R138). -/
def execSetBR (b : BitVec 3) (src : Reg8) (s : State) : Answer := .next (s.rmwR (setOut b) src)

/-- `SET b,(HL)` (R138). -/
def execSetBMHl (b : BitVec 3) (s : State) : Answer := .next (s.selectHl.rmwM (setOut b))

/-- `RRD` (R140). -/
def execRrd (s : State) : Answer := .next (s.rotateDigits (rrdOut s.regs.a (s.peek s.hl)))

/-- `RLD` (R139). -/
def execRld (s : State) : Answer := .next (s.rotateDigits (rldOut s.regs.a (s.peek s.hl)))

/-- `RLC (XY+d)` (R128). -/
def execRlcMXy (x : Idx) (d : Byte) (s : State) : Answer := .next ((s.selectXy x d).rmwM rlcOut)

/-- `RLC (XY+d),r` (R128). -/
def execRlcMXyR (x : Idx) (d : Byte) (src : Reg8) (s : State) : Answer :=
  .next (s.ifRecognized (.rlcMXyR x d src) (fun t => (t.selectXy x d).rmwMR rlcOut src))

/-- `RRC (XY+d)` (R129). -/
def execRrcMXy (x : Idx) (d : Byte) (s : State) : Answer := .next ((s.selectXy x d).rmwM rrcOut)

/-- `RRC (XY+d),r` (R129). -/
def execRrcMXyR (x : Idx) (d : Byte) (src : Reg8) (s : State) : Answer :=
  .next (s.ifRecognized (.rrcMXyR x d src) (fun t => (t.selectXy x d).rmwMR rrcOut src))

/-- `RL (XY+d)` (R130). -/
def execRlMXy (x : Idx) (d : Byte) (s : State) : Answer := .next ((s.selectXy x d).rmwM rlOut)

/-- `RL (XY+d),r` (R130). -/
def execRlMXyR (x : Idx) (d : Byte) (src : Reg8) (s : State) : Answer :=
  .next (s.ifRecognized (.rlMXyR x d src) (fun t => (t.selectXy x d).rmwMR rlOut src))

/-- `RR (XY+d)` (R131). -/
def execRrMXy (x : Idx) (d : Byte) (s : State) : Answer := .next ((s.selectXy x d).rmwM rrOut)

/-- `RR (XY+d),r` (R131). -/
def execRrMXyR (x : Idx) (d : Byte) (src : Reg8) (s : State) : Answer :=
  .next (s.ifRecognized (.rrMXyR x d src) (fun t => (t.selectXy x d).rmwMR rrOut src))

/-- `SLA (XY+d)` (R132). -/
def execSlaMXy (x : Idx) (d : Byte) (s : State) : Answer := .next ((s.selectXy x d).rmwM slaOut)

/-- `SLA (XY+d),r` (R132). -/
def execSlaMXyR (x : Idx) (d : Byte) (src : Reg8) (s : State) : Answer :=
  .next (s.ifRecognized (.slaMXyR x d src) (fun t => (t.selectXy x d).rmwMR slaOut src))

/-- `SRA (XY+d)` (R133). -/
def execSraMXy (x : Idx) (d : Byte) (s : State) : Answer := .next ((s.selectXy x d).rmwM sraOut)

/-- `SRA (XY+d),r` (R133). -/
def execSraMXyR (x : Idx) (d : Byte) (src : Reg8) (s : State) : Answer :=
  .next (s.ifRecognized (.sraMXyR x d src) (fun t => (t.selectXy x d).rmwMR sraOut src))

/-- `SLL (XY+d)` (R134). -/
def execSllMXy (x : Idx) (d : Byte) (s : State) : Answer := .next ((s.selectXy x d).rmwM sllOut)

/-- `SLL (XY+d),r` (R134). -/
def execSllMXyR (x : Idx) (d : Byte) (src : Reg8) (s : State) : Answer :=
  .next (s.ifRecognized (.sllMXyR x d src) (fun t => (t.selectXy x d).rmwMR sllOut src))

/-- `SRL (XY+d)` (R135). -/
def execSrlMXy (x : Idx) (d : Byte) (s : State) : Answer := .next ((s.selectXy x d).rmwM srlOut)

/-- `SRL (XY+d),r` (R135). -/
def execSrlMXyR (x : Idx) (d : Byte) (src : Reg8) (s : State) : Answer :=
  .next (s.ifRecognized (.srlMXyR x d src) (fun t => (t.selectXy x d).rmwMR srlOut src))

/-- `BIT b,(XY+d)` (R136). -/
def execBitBMXy (x : Idx) (d : Byte) (b : BitVec 3) (s : State) : Answer := .next ((s.selectXy x d).testBitM b)

/-- `BIT b,(XY+d) (mirror)` (R136). -/
def execBitBMXyMirror (x : Idx) (d : Byte) (b : BitVec 3) (src : Reg8) (s : State) : Answer :=
  .next (s.ifRecognized (.bitBMXyMirror x d b src) (fun t => (t.selectXy x d).testBitM b))

/-- `RES b,(XY+d)` (R137). -/
def execResBMXy (x : Idx) (d : Byte) (b : BitVec 3) (s : State) : Answer := .next ((s.selectXy x d).rmwM (resOut b))

/-- `RES b,(XY+d),r` (R137). -/
def execResBMXyR (x : Idx) (d : Byte) (b : BitVec 3) (src : Reg8) (s : State) : Answer :=
  .next (s.ifRecognized (.resBMXyR x d b src) (fun t => (t.selectXy x d).rmwMR (resOut b) src))

/-- `SET b,(XY+d)` (R138). -/
def execSetBMXy (x : Idx) (d : Byte) (b : BitVec 3) (s : State) : Answer := .next ((s.selectXy x d).rmwM (setOut b))

/-- `SET b,(XY+d),r` (R138). -/
def execSetBMXyR (x : Idx) (d : Byte) (b : BitVec 3) (src : Reg8) (s : State) : Answer :=
  .next (s.ifRecognized (.setBMXyR x d b src) (fun t => (t.selectXy x d).rmwMR (setOut b) src))

end Sys2Proof.Machine
end

