-- ==== Sys2Proof/Machine/Dispatch.lean ====
section
/-! DEFINITION. exec: one arm per instruction, each one call of its meaning. An instruction's meaning is the Operation of its
rule (spec/00_scope.md R15), run after the fetch: PC is past the instruction's last byte (R20). -/

namespace Sys2Proof.Machine

def exec (i : Instr) (s : State) : Host.Outcome State Fault Refusal :=
  match i with
  | .nop => Sys2Proof.Machine.execNop s
  | .ldRpNn p nn => Sys2Proof.Machine.execLdRpNn p nn s
  | .ldMBcA => Sys2Proof.Machine.execLdMBcA s
  | .ldMDeA => Sys2Proof.Machine.execLdMDeA s
  | .ldMNnHl nn => Sys2Proof.Machine.execLdMNnHl nn s
  | .ldMNnA nn => Sys2Proof.Machine.execLdMNnA nn s
  | .ldAMBc => Sys2Proof.Machine.execLdAMBc s
  | .ldAMDe => Sys2Proof.Machine.execLdAMDe s
  | .ldHlMNn nn => Sys2Proof.Machine.execLdHlMNn nn s
  | .ldAMNn nn => Sys2Proof.Machine.execLdAMNn nn s
  | .incRp p => Sys2Proof.Machine.execIncRp p s
  | .decRp p => Sys2Proof.Machine.execDecRp p s
  | .incR r => Sys2Proof.Machine.execIncR r s
  | .incMHl => Sys2Proof.Machine.execIncMHl s
  | .decR r => Sys2Proof.Machine.execDecR r s
  | .decMHl => Sys2Proof.Machine.execDecMHl s
  | .ldRN r n => Sys2Proof.Machine.execLdRN r n s
  | .ldMHlN n => Sys2Proof.Machine.execLdMHlN n s
  | .rlca => Sys2Proof.Machine.execRlca s
  | .rrca => Sys2Proof.Machine.execRrca s
  | .rla => Sys2Proof.Machine.execRla s
  | .rra => Sys2Proof.Machine.execRra s
  | .daa => Sys2Proof.Machine.execDaa s
  | .cpl => Sys2Proof.Machine.execCpl s
  | .scf => Sys2Proof.Machine.execScf s
  | .ccf => Sys2Proof.Machine.execCcf s
  | .exAfAf => Sys2Proof.Machine.execExAfAf s
  | .djnz e => Sys2Proof.Machine.execDjnz e s
  | .jr e => Sys2Proof.Machine.execJr e s
  | .jrCc cc e => Sys2Proof.Machine.execJrCc cc e s
  | .addHlRp p => Sys2Proof.Machine.execAddHlRp p s
  | .ldRR r src => Sys2Proof.Machine.execLdRR r src s
  | .ldRMHl r => Sys2Proof.Machine.execLdRMHl r s
  | .ldMHlR src => Sys2Proof.Machine.execLdMHlR src s
  | .halt => Sys2Proof.Machine.execHalt s
  | .addAR src => Sys2Proof.Machine.execAddAR src s
  | .addAMHl => Sys2Proof.Machine.execAddAMHl s
  | .addAN n => Sys2Proof.Machine.execAddAN n s
  | .adcAR src => Sys2Proof.Machine.execAdcAR src s
  | .adcAMHl => Sys2Proof.Machine.execAdcAMHl s
  | .adcAN n => Sys2Proof.Machine.execAdcAN n s
  | .subR src => Sys2Proof.Machine.execSubR src s
  | .subMHl => Sys2Proof.Machine.execSubMHl s
  | .subN n => Sys2Proof.Machine.execSubN n s
  | .sbcAR src => Sys2Proof.Machine.execSbcAR src s
  | .sbcAMHl => Sys2Proof.Machine.execSbcAMHl s
  | .sbcAN n => Sys2Proof.Machine.execSbcAN n s
  | .andR src => Sys2Proof.Machine.execAndR src s
  | .andMHl => Sys2Proof.Machine.execAndMHl s
  | .andN n => Sys2Proof.Machine.execAndN n s
  | .xorR src => Sys2Proof.Machine.execXorR src s
  | .xorMHl => Sys2Proof.Machine.execXorMHl s
  | .xorN n => Sys2Proof.Machine.execXorN n s
  | .orR src => Sys2Proof.Machine.execOrR src s
  | .orMHl => Sys2Proof.Machine.execOrMHl s
  | .orN n => Sys2Proof.Machine.execOrN n s
  | .cpR src => Sys2Proof.Machine.execCpR src s
  | .cpMHl => Sys2Proof.Machine.execCpMHl s
  | .cpN n => Sys2Proof.Machine.execCpN n s
  | .retCc cc => Sys2Proof.Machine.execRetCc cc s
  | .popQq p => Sys2Proof.Machine.execPopQq p s
  | .ret => Sys2Proof.Machine.execRet s
  | .exx => Sys2Proof.Machine.execExx s
  | .jpHl => Sys2Proof.Machine.execJpHl s
  | .ldSpHl => Sys2Proof.Machine.execLdSpHl s
  | .jpCcNn cc nn => Sys2Proof.Machine.execJpCcNn cc nn s
  | .jpNn nn => Sys2Proof.Machine.execJpNn nn s
  | .outNA n => Sys2Proof.Machine.execOutNA n s
  | .inAN n => Sys2Proof.Machine.execInAN n s
  | .exMSpHl => Sys2Proof.Machine.execExMSpHl s
  | .exDeHl => Sys2Proof.Machine.execExDeHl s
  | .di => Sys2Proof.Machine.execDi s
  | .ei => Sys2Proof.Machine.execEi s
  | .callCcNn cc nn => Sys2Proof.Machine.execCallCcNn cc nn s
  | .pushQq p => Sys2Proof.Machine.execPushQq p s
  | .callNn nn => Sys2Proof.Machine.execCallNn nn s
  | .rst t => Sys2Proof.Machine.execRst t s
  | .prefixCb => Sys2Proof.Machine.execPrefixCb s
  | .prefixEd => Sys2Proof.Machine.execPrefixEd s
  | .prefixDd => Sys2Proof.Machine.execPrefixDd s
  | .prefixFd => Sys2Proof.Machine.execPrefixFd s
  | .rlcR src => Sys2Proof.Machine.execRlcR src s
  | .rlcMHl => Sys2Proof.Machine.execRlcMHl s
  | .rrcR src => Sys2Proof.Machine.execRrcR src s
  | .rrcMHl => Sys2Proof.Machine.execRrcMHl s
  | .rlR src => Sys2Proof.Machine.execRlR src s
  | .rlMHl => Sys2Proof.Machine.execRlMHl s
  | .rrR src => Sys2Proof.Machine.execRrR src s
  | .rrMHl => Sys2Proof.Machine.execRrMHl s
  | .slaR src => Sys2Proof.Machine.execSlaR src s
  | .slaMHl => Sys2Proof.Machine.execSlaMHl s
  | .sraR src => Sys2Proof.Machine.execSraR src s
  | .sraMHl => Sys2Proof.Machine.execSraMHl s
  | .sllR src => Sys2Proof.Machine.execSllR src s
  | .sllMHl => Sys2Proof.Machine.execSllMHl s
  | .srlR src => Sys2Proof.Machine.execSrlR src s
  | .srlMHl => Sys2Proof.Machine.execSrlMHl s
  | .bitBR b src => Sys2Proof.Machine.execBitBR b src s
  | .bitBMHl b => Sys2Proof.Machine.execBitBMHl b s
  | .resBR b src => Sys2Proof.Machine.execResBR b src s
  | .resBMHl b => Sys2Proof.Machine.execResBMHl b s
  | .setBR b src => Sys2Proof.Machine.execSetBR b src s
  | .setBMHl b => Sys2Proof.Machine.execSetBMHl b s
  | .inRC r => Sys2Proof.Machine.execInRC r s
  | .inC => Sys2Proof.Machine.execInC s
  | .outCR r => Sys2Proof.Machine.execOutCR r s
  | .outC0 => Sys2Proof.Machine.execOutC0 s
  | .sbcHlRp p => Sys2Proof.Machine.execSbcHlRp p s
  | .adcHlRp p => Sys2Proof.Machine.execAdcHlRp p s
  | .ldMNnRp p nn => Sys2Proof.Machine.execLdMNnRp p nn s
  | .ldRpMNn p nn => Sys2Proof.Machine.execLdRpMNn p nn s
  | .neg => Sys2Proof.Machine.execNeg s
  | .negMirror y => Sys2Proof.Machine.execNegMirror y s
  | .retn => Sys2Proof.Machine.execRetn s
  | .reti => Sys2Proof.Machine.execReti s
  | .retnMirror y => Sys2Proof.Machine.execRetnMirror y s
  | .im0 => Sys2Proof.Machine.execIm0 s
  | .im1 => Sys2Proof.Machine.execIm1 s
  | .im2 => Sys2Proof.Machine.execIm2 s
  | .im0Mirror y => Sys2Proof.Machine.execIm0Mirror y s
  | .im1Mirror => Sys2Proof.Machine.execIm1Mirror s
  | .im2Mirror => Sys2Proof.Machine.execIm2Mirror s
  | .ldIA => Sys2Proof.Machine.execLdIA s
  | .ldRA => Sys2Proof.Machine.execLdRA s
  | .ldAI => Sys2Proof.Machine.execLdAI s
  | .ldAR => Sys2Proof.Machine.execLdAR s
  | .rrd => Sys2Proof.Machine.execRrd s
  | .rld => Sys2Proof.Machine.execRld s
  | .ldi => Sys2Proof.Machine.execLdi s
  | .ldd => Sys2Proof.Machine.execLdd s
  | .ldir => Sys2Proof.Machine.execLdir s
  | .lddr => Sys2Proof.Machine.execLddr s
  | .cpi => Sys2Proof.Machine.execCpi s
  | .cpd => Sys2Proof.Machine.execCpd s
  | .cpir => Sys2Proof.Machine.execCpir s
  | .cpdr => Sys2Proof.Machine.execCpdr s
  | .ini => Sys2Proof.Machine.execIni s
  | .ind => Sys2Proof.Machine.execInd s
  | .inir => Sys2Proof.Machine.execInir s
  | .indr => Sys2Proof.Machine.execIndr s
  | .outi => Sys2Proof.Machine.execOuti s
  | .outd => Sys2Proof.Machine.execOutd s
  | .otir => Sys2Proof.Machine.execOtir s
  | .otdr => Sys2Proof.Machine.execOtdr s
  | .edHole o => Sys2Proof.Machine.execEdHole o s
  | .addXyRp x p => Sys2Proof.Machine.execAddXyRp x p s
  | .ldXyNn x nn => Sys2Proof.Machine.execLdXyNn x nn s
  | .ldMNnXy x nn => Sys2Proof.Machine.execLdMNnXy x nn s
  | .ldXyMNn x nn => Sys2Proof.Machine.execLdXyMNn x nn s
  | .incXy x => Sys2Proof.Machine.execIncXy x s
  | .decXy x => Sys2Proof.Machine.execDecXy x s
  | .incMXy x d => Sys2Proof.Machine.execIncMXy x d s
  | .decMXy x d => Sys2Proof.Machine.execDecMXy x d s
  | .ldMXyN x d n => Sys2Proof.Machine.execLdMXyN x d n s
  | .ldRMXy x r d => Sys2Proof.Machine.execLdRMXy x r d s
  | .ldMXyR x d src => Sys2Proof.Machine.execLdMXyR x d src s
  | .addAMXy x d => Sys2Proof.Machine.execAddAMXy x d s
  | .adcAMXy x d => Sys2Proof.Machine.execAdcAMXy x d s
  | .subMXy x d => Sys2Proof.Machine.execSubMXy x d s
  | .sbcAMXy x d => Sys2Proof.Machine.execSbcAMXy x d s
  | .andMXy x d => Sys2Proof.Machine.execAndMXy x d s
  | .xorMXy x d => Sys2Proof.Machine.execXorMXy x d s
  | .orMXy x d => Sys2Proof.Machine.execOrMXy x d s
  | .cpMXy x d => Sys2Proof.Machine.execCpMXy x d s
  | .popXy x => Sys2Proof.Machine.execPopXy x s
  | .pushXy x => Sys2Proof.Machine.execPushXy x s
  | .exMSpXy x => Sys2Proof.Machine.execExMSpXy x s
  | .jpXy x => Sys2Proof.Machine.execJpXy x s
  | .ldSpXy x => Sys2Proof.Machine.execLdSpXy x s
  | .incXyHalf x h => Sys2Proof.Machine.execIncXyHalf x h s
  | .decXyHalf x h => Sys2Proof.Machine.execDecXyHalf x h s
  | .ldXyHalfN x h n => Sys2Proof.Machine.execLdXyHalfN x h n s
  | .ldRXyHalf x r h => Sys2Proof.Machine.execLdRXyHalf x r h s
  | .ldXyHalfS x h src => Sys2Proof.Machine.execLdXyHalfS x h src s
  | .addAXyHalf x h => Sys2Proof.Machine.execAddAXyHalf x h s
  | .adcAXyHalf x h => Sys2Proof.Machine.execAdcAXyHalf x h s
  | .subXyHalf x h => Sys2Proof.Machine.execSubXyHalf x h s
  | .sbcAXyHalf x h => Sys2Proof.Machine.execSbcAXyHalf x h s
  | .andXyHalf x h => Sys2Proof.Machine.execAndXyHalf x h s
  | .xorXyHalf x h => Sys2Proof.Machine.execXorXyHalf x h s
  | .orXyHalf x h => Sys2Proof.Machine.execOrXyHalf x h s
  | .cpXyHalf x h => Sys2Proof.Machine.execCpXyHalf x h s
  | .xyPrefixHlNotUsed x o => Sys2Proof.Machine.execXyPrefixHlNotUsed x o s
  | .xyPrefixBeforeEd x => Sys2Proof.Machine.execXyPrefixBeforeEd x s
  | .rlcMXy x d => Sys2Proof.Machine.execRlcMXy x d s
  | .rlcMXyR x d src => Sys2Proof.Machine.execRlcMXyR x d src s
  | .rrcMXy x d => Sys2Proof.Machine.execRrcMXy x d s
  | .rrcMXyR x d src => Sys2Proof.Machine.execRrcMXyR x d src s
  | .rlMXy x d => Sys2Proof.Machine.execRlMXy x d s
  | .rlMXyR x d src => Sys2Proof.Machine.execRlMXyR x d src s
  | .rrMXy x d => Sys2Proof.Machine.execRrMXy x d s
  | .rrMXyR x d src => Sys2Proof.Machine.execRrMXyR x d src s
  | .slaMXy x d => Sys2Proof.Machine.execSlaMXy x d s
  | .slaMXyR x d src => Sys2Proof.Machine.execSlaMXyR x d src s
  | .sraMXy x d => Sys2Proof.Machine.execSraMXy x d s
  | .sraMXyR x d src => Sys2Proof.Machine.execSraMXyR x d src s
  | .sllMXy x d => Sys2Proof.Machine.execSllMXy x d s
  | .sllMXyR x d src => Sys2Proof.Machine.execSllMXyR x d src s
  | .srlMXy x d => Sys2Proof.Machine.execSrlMXy x d s
  | .srlMXyR x d src => Sys2Proof.Machine.execSrlMXyR x d src s
  | .bitBMXy x d b => Sys2Proof.Machine.execBitBMXy x d b s
  | .bitBMXyMirror x d b src => Sys2Proof.Machine.execBitBMXyMirror x d b src s
  | .resBMXy x d b => Sys2Proof.Machine.execResBMXy x d b s
  | .resBMXyR x d b src => Sys2Proof.Machine.execResBMXyR x d b src s
  | .setBMXy x d b => Sys2Proof.Machine.execSetBMXy x d b s
  | .setBMXyR x d b src => Sys2Proof.Machine.execSetBMXyR x d b src s

end Sys2Proof.Machine
end

