-- ==== Sys2Proof/Machine/Fetch.lean ====
section
/-! DEFINITION. Fetching (spec/30_encoding.md R66, R81, R82): the bytes at PC, decoded after the prefix bytes already consumed,
and what fetching an instruction does before its Operation runs: PC and R advance, the bytes are read over the bus,
the prefix and form costs are charged (spec/60_exceptions.md R235, notes/assumptions/11.md). A DD or FD byte that does not
take part in an instruction's opcode is fetched in a step of its own (notes/assumptions/6.md). -/

namespace Sys2Proof.Machine

/-- The four bytes at PC: as many as the longest instruction has (R99). -/
def State.window (s : State) : List Byte :=
  [s.peek s.pc, s.peek (s.pc + 1), s.peek (s.pc + 2), s.peek (s.pc + 3)]

/-- The index register the selector names, if it names one (R33). -/
def selIdx : XySel → Option Idx
  | .hl => none
  | .ix => some .ix
  | .iy => some .iy

/-- Whether a DD or FD byte already consumed belongs to the opcode byte that follows it: CB, or an index-affected opcode
(R83, R86). -/
def takesIndex (o : Byte) : Bool := o == 0xCB#8 || indexAffected o

/-- The prefix bytes already consumed that belong to the instruction the next bytes end (R81, R83): `xy_sel` and `pfx` stand
for them. -/
def contextBytes (sel : XySel) (pfx : Pfx) (next : Byte) : List Byte :=
  match pfx, selIdx sel with
  | .ed, _ => [0xED#8]
  | .cb, none => [0xCB#8]
  | .cb, some x => [x.byte, 0xCB#8]
  | .none, none => []
  | .none, some x => if takesIndex next then [x.byte] else []

/-- An instruction and how many of its bytes were consumed before it was decoded. -/
structure Fetched where
  instr : Instr
  seen  : Nat
deriving DecidableEq, Repr

/-- The instruction at PC (R81). -/
def State.decodeNext (s : State) : Except DecodeError Fetched :=
  let ctx := contextBytes s.xySel s.pfx (s.peek s.pc)
  match decode (ctx ++ s.window) with
  | .ok i => .ok { instr := i, seen := ctx.length }
  | .error e => .error e

/-- `FetchByte()`: one byte read at PC, PC advances modulo 2^16 (R20, R66). -/
def State.fetchByte (s : State) : State := { s.noteRead s.pc with pc := s.pc + 1 }

/-- `FetchByte()`, `n` times. -/
def State.fetchBytes : Nat → State → State
  | 0, s => s
  | n + 1, s => State.fetchBytes n s.fetchByte

/-- What is charged when an instruction has been fetched: 4 for a DD or FD byte not charged before, and the form's cost
unless the opcode is unknown; a prefix byte has no form cost (R81, R224, R256). -/
def fetchCost (p : Params) (f : Fetched) : Nat :=
  (if f.seen = 0 then prefixCost * f.instr.indexPrefixes else 0) +
  (if f.instr.recognized p && !f.instr.isPrefix then f.instr.baseCost p else 0)

/-- The state in which an instruction's Operation runs (R81, R82). -/
def State.afterFetch (s : State) (f : Fetched) : State :=
  ((State.fetchBytes (f.instr.fetchSize s.params - f.seen) s).incR (f.instr.m1 - f.seen)).charge (fetchCost s.params f)

/-- The end of a step's instruction: no boundary after a prefix byte (R83, R234); else the decoder state is that of a
boundary and the budget's range is checked (R32, U15). -/
def finish (i : Instr) (s : State) : Answer :=
  if i.isPrefix then .next s else checkBudget s.atBoundary

end Sys2Proof.Machine
end

