-- ==== Sys2Proof/Machine/Host.lean ====
section
/-! DEFINITION. The acts of the host (spec/60_exceptions.md R244, R246) and the entry of `run` (R236). The host acts only between
`run` calls: a step performs the next act only in phase `idle` (notes/assumptions/5.md). -/

namespace Sys2Proof.Machine

/-- `reset(state)` (R247): buffers, regions, peripherals and the diagnostic channel are unchanged, and so are the
parameters, the bus record and the model's own fields (notes/assumptions/27.md). -/
def State.doReset (s : State) : State :=
  { s with
    regs := Regs.zero, shadow := Regs.zero
    ix := 0x0000#16, iy := 0x0000#16, sp := 0x0000#16, pc := 0x0000#16
    i := 0x00#8, r := 0x00#8
    iff0 := false, iff1 := false, im := .im0
    nmiPending := false, irqPending := false, halted := false
    budget := 0
    xySel := .hl, disp := 0x00#8, pfx := .none }

/-- `run` entry up to the interrupt check: the mode, and the allowance added in budget mode (R236). -/
def State.addAllowance (s : State) (allowance : BitVec 32) : State :=
  if allowance.toInt < 0 then { s.atBoundary with phase := .untilHalt }
  else { s.atBoundary with phase := .budgeted, budget := s.budget + allowance.toInt }

/-- `run(allowance)` up to its loop (R236): the allowance, then the interrupt check. -/
def State.enterRun (s : State) (allowance : BitVec 32) : Answer :=
  andThen (andThen (checkBudget (s.addAllowance allowance)) State.intCheck) checkBudget

/-- A buffer's bytes placed from a key on. -/
def storeBuffer : List Host.Cell → Nat → List Byte → List Host.Cell
  | m, _, [] => m
  | m, k, b :: bs => storeBuffer (memWrite m k b) (k + 1) bs

/-- `register_memory_region` (R42, R244): the region is the last of the list; a size above 0x10000 or a buffer shorter than
the size is refused. Of a longer buffer the bytes below the size are kept (notes/assumptions/29.md). -/
def State.addRegion (s : State) (base : Word) (size : Nat) (kind : RegionKind) (buffer : List Byte) : Answer :=
  if 0x10000 < size ∨ buffer.length < size then .refused .badRegion
  else .next
    { s with
      regions := s.regions ++ [{ base := base, size := size, kind := kind }]
      mem := storeBuffer s.mem (bufferKey s.regions.length 0) (buffer.take size) }

/-- `register_peripheral` (R54, R244). -/
def State.addPeripheral (s : State) (d : Peripheral) : State :=
  { s with peripherals := s.peripherals ++ [d] }

/-- A change of one buffer byte by the host, read-only regions included (R244). A byte past the region's size, which a longer
buffer may have, and a byte of no region's buffer are out of the core's reach (R43): changing one changes nothing
here (notes/assumptions/29.md). -/
def State.poke (s : State) (region offset : Nat) (v : Byte) : State :=
  match s.regions[region]? with
  | some g => if offset < g.size then { s with mem := memWrite s.mem (bufferKey region offset) v } else s
  | none => s

/-- The accessors for 8-bit registers (R38). -/
def State.putReg8 (s : State) (reg : AccReg8) (v : Byte) : State :=
  match reg with
  | .a => { s with regs := { s.regs with a := v } }
  | .f => { s with regs := { s.regs with f := v } }
  | .b => { s with regs := { s.regs with b := v } }
  | .c => { s with regs := { s.regs with c := v } }
  | .d => { s with regs := { s.regs with d := v } }
  | .e => { s with regs := { s.regs with e := v } }
  | .h => { s with regs := { s.regs with h := v } }
  | .l => { s with regs := { s.regs with l := v } }
  | .a' => { s with shadow := { s.shadow with a := v } }
  | .f' => { s with shadow := { s.shadow with f := v } }
  | .b' => { s with shadow := { s.shadow with b := v } }
  | .c' => { s with shadow := { s.shadow with c := v } }
  | .d' => { s with shadow := { s.shadow with d := v } }
  | .e' => { s with shadow := { s.shadow with e := v } }
  | .h' => { s with shadow := { s.shadow with h := v } }
  | .l' => { s with shadow := { s.shadow with l := v } }
  | .i => { s with i := v }
  | .r => { s with r := v }

/-- The accessors for 16-bit registers (R38). -/
def State.putReg16 (s : State) (reg : AccReg16) (v : Word) : State :=
  match reg with
  | .ix => { s with ix := v }
  | .iy => { s with iy := v }
  | .sp => { s with sp := v }
  | .pc => { s with pc := v }

/-- The bit of F that holds a flag (R21). -/
def flagBit : FlagName → Nat
  | .s => 7 | .z => 6 | .f5 => 5 | .h => 4 | .f3 => 3 | .pv => 2 | .n => 1 | .c => 0

/-- The flag accessor: one bit of F (R21, R38). -/
def State.putFlag (s : State) (k : FlagName) (v : Bool) : State :=
  let bit := 1#8 <<< flagBit k
  { s with regs := { s.regs with f := if v then s.regs.f ||| bit else s.regs.f &&& ~~~bit } }

/-- The accessor for IM: only 0, 1 and 2 are legal (R29, R244). -/
def State.putIm (s : State) (mode : Nat) : Answer :=
  match mode with
  | 0 => .next { s with im := .im0 }
  | 1 => .next { s with im := .im1 }
  | 2 => .next { s with im := .im2 }
  | _ => .refused .illegalIm

/-- How a snapshot loader resumes: `PC <- MemRead(SP, 2); SP <- SP + 2`, `IFF1 <- IFF0` (R246). The host's own reads are no
bus transactions of the core (notes/assumptions/22.md). -/
def State.resume (s : State) : State :=
  { s with pc := s.peek16 s.sp, sp := s.sp + 2, iff1 := s.iff0 }

/-- What one act of the host does (R244). -/
def State.perform (s : State) : HostAct → Answer
  | .reset => .next s.doReset
  | .run allowance => s.enterRun allowance
  | .signalNmi => .next { s with nmiPending := true }
  | .signalIrq => .next { s with irqPending := true }
  | .registerRegion base size kind buffer => s.addRegion base size kind buffer
  | .registerPeripheral mask pattern hasRead hasWrite =>
    .next (s.addPeripheral { mask := mask, pattern := pattern, hasRead := hasRead, hasWrite := hasWrite })
  | .pokeBuffer region offset v => .next (s.poke region offset v)
  | .setReg8 reg v => .next (s.putReg8 reg v)
  | .setReg16 reg v => .next (s.putReg16 reg v)
  | .setFlag k v => .next (s.putFlag k v)
  | .setIff0 v => .next { s with iff0 := v }
  | .setIff1 v => .next { s with iff1 := v }
  | .setIm mode => s.putIm mode
  | .setNmiPending v => .next { s with nmiPending := v }
  | .setIrqPending v => .next { s with irqPending := v }
  | .setHalted v => .next { s with halted := v }
  | .setBudget v => checkBudget { s with budget := v }
  | .resumeSnapshot => .next s.resume

/-- The act a core with an empty script is given, `run(-1)` (notes/assumptions/4.md). -/
def defaultAct : HostAct := .run 0xFFFFFFFF#32

/-- The next act of the script, performed (R244). -/
def State.hostStep (s : State) : Answer :=
  match s.host with
  | [] => s.perform defaultAct
  | act :: rest => { s with host := rest }.perform act

end Sys2Proof.Machine
end

