-- ==== Sys2Proof/Machine/Run.lean ====
section
/-! DEFINITION. One step inside a `run` call (spec/60_exceptions.md R234 to R237), and a program placed where the next step
fetches. -/

namespace Sys2Proof.Machine

/-- One instruction: fetch, decode, Operation, end of the instruction (R81, R237). A DD or FD byte that takes no part in an
opcode is an instruction of its own here (notes/assumptions/6.md). -/
def State.instrStep (s : State) : Answer :=
  match s.decodeNext with
  | .error _ => .fault .bytesEnd
  | .ok f => andThen (exec f.instr (s.afterFetch f)) (finish f.instr)

/-- The body of the run loop, or `run`'s return (R237). -/
def State.runStep (s : State) : Answer :=
  if s.goesOn then s.instrStep else .next s.leaveRun

/-- One buffer byte placed at an address, whatever the region's kind: how an embedder loads a program (R244, R248). -/
def State.placeByte (s : State) (a : Word) (v : Byte) : State :=
  match findRegion s.regions 0 a with
  | some (key, _) => { s with mem := memWrite s.mem key v }
  | none => s

/-- Bytes placed from an address on. -/
def State.placeBytes (s : State) (a : Word) : List Byte → State
  | [] => s
  | b :: bs => (s.placeByte a b).placeBytes (a + 1) bs

/-- Whether every one of the four addresses from PC on is in a region. -/
def State.windowMapped (s : State) : Bool :=
  (findRegion s.regions 0 s.pc).isSome && (findRegion s.regions 0 (s.pc + 1)).isSome &&
  (findRegion s.regions 0 (s.pc + 2)).isSome && (findRegion s.regions 0 (s.pc + 3)).isSome

/-- A region for the four bytes at PC, where the map lacks one. -/
def State.mapWindow (s : State) : State :=
  if s.windowMapped then s
  else { s with regions := s.regions ++ [{ base := s.pc, size := 4, kind := .rw }] }

/-- The core in a `run` call, at an instruction boundary and not halted, so that the next step fetches at PC
(notes/assumptions/18.md). -/
def State.running (s : State) : State :=
  { s.atBoundary with phase := .untilHalt, halted := false }

/-- The machine with an instruction's bytes, and zeros after them, where the next step fetches
(notes/assumptions/14.md, notes/assumptions/18.md). -/
def State.withProgram (s : State) (bytes : List Byte) : State :=
  s.running.mapWindow.placeBytes s.pc ((bytes ++ [0#8, 0#8, 0#8, 0#8]).take 4)

end Sys2Proof.Machine
end

