-- ==== Sys2Proof/Machine/Step.lean ====
section
/-! DEFINITION. One step of the machine: an act of the host between `run` calls (spec/60_exceptions.md R244), one turn of the
run loop inside one (R237). -/

namespace Sys2Proof.Machine

/-- One step. -/
def step (s : State) : Host.Outcome State Fault Refusal :=
  match s.phase with
  | .idle => s.hostStep
  | .budgeted => s.runStep
  | .untilHalt => s.runStep

/-- The machine with a word of spec/opcode_table.json placed so that the next step runs it. -/
def State.withFetchWord (s : State) (nbits w : Nat) : State :=
  s.withProgram (tableBytes nbits w)

end Sys2Proof.Machine
end

