-- ==== Sys2Proof/Safety.lean ====
section
/-! DEFINITION. What counts as a sound state of the machine, in the terms the statements use: the invariants that every
step keeps. -/

namespace Sys2Proof.Machine

/-- Every region is one the registration admits: at most 0x10000 bytes (R42, R244). -/
def regionsLegal (gs : List Region) : Bool := gs.all (fun g => decide (g.size ≤ 0x10000))

/-- Every listed byte is a byte of a registered region's buffer. -/
def memOwned (gs : List Region) (m : List Host.Cell) : Bool :=
  m.all (fun c =>
    match gs[c.1 / 65536]? with
    | some g => decide (c.1 % 65536 < g.size)
    | none => false)

/-- The decoder state at an instruction boundary (R33 to R35, R81). -/
def State.boundary (s : State) : Bool := s.xySel == .hl && s.disp == 0x00#8 && s.pfx == .none

/-- The decoder state a step leaves: that of a boundary, or, inside a `run` call, that of the prefix bytes consumed so far
(R83, R84, R88). -/
def State.decoderLegal (s : State) : Bool :=
  s.disp == 0x00#8 && (s.phase != .idle || !s.midInstr) && (s.pfx != .ed || s.xySel == .hl)

/-- The budget is in the signed 32-bit range wherever it is tested: at every instruction boundary (R32, R234). -/
def State.budgetLegal (s : State) : Bool := s.midInstr || budgetInRange s.budget

/-- The invariant of the machine: the canonical memory, the map, the decoder state and the budget. -/
def State.inv (s : State) : Bool :=
  Memory.wf s.mem && regionsLegal s.regions && memOwned s.regions s.mem && s.decoderLegal && s.budgetLegal

end Sys2Proof.Machine
end

