-- ==== Sys2Proof/Certificates/Slice0/Obligations.lean ====
section
/-! DEFINITION. The statements for the provers. Namespace Sys2Proof.Claims holds the terms they are written in: numbers, flag
bytes, operand forms and what a store leaves, each written from the rules of spec/ with Nat and Int arithmetic and not with
the model's own operations. An instruction's statement gives the bytes the decoder reads it from, and the whole next
state of exec: every field that is not named keeps its value (its frame). -/

namespace Sys2Proof.Claims

open Sys2Proof.Machine

/-! ## Numbers and flags -/

/-- `hi:lo` (R12). -/
def wordOf (hi lo : Byte) : Word := BitVec.ofNat 16 (256 * hi.toNat + lo.toNat)

/-- The high byte of a word (R16). -/
def high (w : Word) : Byte := BitVec.ofNat 8 (w.toNat / 256)

/-- The low byte of a word (R16). -/
def low (w : Word) : Byte := BitVec.ofNat 8 (w.toNat % 256)

/-- Bit `k` of a byte. -/
def bitOf (v : Byte) (k : Nat) : Bool := v.toNat / 2 ^ k % 2 == 1

/-- The flag byte with the bits of R21: S 7, Z 6, 5, H 4, 3, PV 2, N 1, C 0. -/
def fByte (fs fz f5 fh f3 fpv fn fc : Bool) : Byte :=
  BitVec.ofNat 8 (128 * fs.toNat + 64 * fz.toNat + 32 * f5.toNat + 16 * fh.toNat + 8 * f3.toNat +
    4 * fpv.toNat + 2 * fn.toNat + fc.toNat)

/-- The carry flag of a flag byte (R21). -/
def cy (f : Byte) : Bool := bitOf f 0

/-- An even number of bits is set (R101). -/
def evenBits (v : Byte) : Bool :=
  ((List.range 8).map (fun k => v.toNat / 2 ^ k % 2)).sum % 2 == 0

/-- `a + b + c` modulo 2^8. -/
def sum8 (a b : Byte) (c : Bool) : Byte := BitVec.ofNat 8 (a.toNat + b.toNat + c.toNat)

/-- `a - b - c` modulo 2^8. -/
def diff8 (a b : Byte) (c : Bool) : Byte := BitVec.ofInt 8 ((a.toNat : Int) - b.toNat - c.toNat)

/-- An integer outside the signed 8-bit range. -/
def overflow8 (t : Int) : Bool := decide (t < -128) || decide (127 < t)

/-- The flags of an addition, as sums of the operands (R102). -/
def addF (a b : Byte) (c : Bool) : Byte :=
  let r := sum8 a b c
  fByte (decide (128 ≤ r.toNat)) (decide (r.toNat = 0)) (bitOf r 5)
    (decide (16 ≤ a.toNat % 16 + b.toNat % 16 + c.toNat)) (bitOf r 3)
    (overflow8 (a.toInt + b.toInt + c.toNat)) false (decide (256 ≤ a.toNat + b.toNat + c.toNat))

/-- The flags of a subtraction, as differences of the operands (R103); bits 5 and 3 come from `src`. -/
def subFrom (a b : Byte) (c : Bool) (src : Byte) : Byte :=
  let r := diff8 a b c
  fByte (decide (128 ≤ r.toNat)) (decide (r.toNat = 0)) (bitOf src 5)
    (decide (a.toNat % 16 < b.toNat % 16 + c.toNat)) (bitOf src 3)
    (overflow8 (a.toInt - b.toInt - c.toNat)) true (decide (a.toNat < b.toNat + c.toNat))

/-- The flags of a subtraction (R103). -/
def subF (a b : Byte) (c : Bool) : Byte := subFrom a b c (diff8 a b c)

/-- S, Z, 5 and 3 from a result, parity, N = 0, and the given H and C (R113 to R115, R127, R212). -/
def resultF (r : Byte) (h c : Bool) : Byte :=
  fByte (decide (128 ≤ r.toNat)) (decide (r.toNat = 0)) (bitOf r 5) h (bitOf r 3) (evenBits r) false c

/-- S, Z and PV of the old F, bits 5 and 3 of a byte, and the given H, N and C (R119 to R125, R142). -/
def keptF (old src : Byte) (h n c : Bool) : Byte :=
  fByte (bitOf old 7) (bitOf old 6) (bitOf src 5) h (bitOf src 3) (bitOf old 2) n c

/-! ## Registers -/

/-- The code of a register (R68). -/
def code : Reg8 → Nat
  | .b => 0 | .c => 1 | .d => 2 | .e => 3 | .h => 4 | .l => 5 | .a => 7

/-- The prefix byte of an index register (R67). -/
def prefixByte : Idx → Byte
  | .ix => 0xDD#8 | .iy => 0xFD#8

/-- The number of a half: XYH is 0, XYL is 1 (R89). -/
def halfNo : Half → Nat
  | .hi => 0 | .lo => 1

/-- A register of the main file. -/
def get (g : Regs) : Reg8 → Byte
  | .b => g.b | .c => g.c | .d => g.d | .e => g.e | .h => g.h | .l => g.l | .a => g.a

/-- A register of the main file, written. -/
def put (g : Regs) (r : Reg8) (v : Byte) : Regs :=
  match r with
  | .b => { g with b := v } | .c => { g with c := v } | .d => { g with d := v } | .e => { g with e := v }
  | .h => { g with h := v } | .l => { g with l := v } | .a => { g with a := v }

/-- BC. -/
def bc (s : State) : Word := wordOf s.regs.b s.regs.c
/-- DE. -/
def de (s : State) : Word := wordOf s.regs.d s.regs.e
/-- HL. -/
def hl (s : State) : Word := wordOf s.regs.h s.regs.l
/-- AF. -/
def af (s : State) : Word := wordOf s.regs.a s.regs.f

/-- BC written. -/
def putBc (g : Regs) (v : Word) : Regs := { g with b := high v, c := low v }
/-- DE written. -/
def putDe (g : Regs) (v : Word) : Regs := { g with d := high v, e := low v }
/-- HL written. -/
def putHl (g : Regs) (v : Word) : Regs := { g with h := high v, l := low v }
/-- AF written. -/
def putAf (g : Regs) (v : Word) : Regs := { g with a := high v, f := low v }

/-- IX or IY. -/
def xy (s : State) : Idx → Word
  | .ix => s.ix | .iy => s.iy

/-- IX or IY written. -/
def putXy (s : State) (x : Idx) (v : Word) : State :=
  match x with
  | .ix => { s with ix := v } | .iy => { s with iy := v }

/-- A half of IX or IY. -/
def xyHalf (s : State) (x : Idx) : Half → Byte
  | .hi => high (xy s x) | .lo => low (xy s x)

/-- A half of IX or IY written: the other half is kept (R89). -/
def putHalf (s : State) (x : Idx) (h : Half) (v : Byte) : State :=
  match h with
  | .hi => putXy s x (wordOf v (low (xy s x)))
  | .lo => putXy s x (wordOf (high (xy s x)) v)

/-- `rp[p]` (R69). -/
def pair (s : State) : Pair → Word
  | .bc => bc s | .de => de s | .hl => hl s | .sp => s.sp

/-- `rp[p]` written. -/
def putPair (s : State) (p : Pair) (v : Word) : State :=
  match p with
  | .bc => { s with regs := putBc s.regs v } | .de => { s with regs := putDe s.regs v }
  | .hl => { s with regs := putHl s.regs v } | .sp => { s with sp := v }

/-- The code of `rp` (R69). -/
def pairNo : Pair → Nat
  | .bc => 0 | .de => 1 | .hl => 2 | .sp => 3

/-- `rp[p]` under an index prefix (R69). -/
def xyPair (s : State) (x : Idx) : XyPair → Word
  | .bc => bc s | .de => de s | .xy => xy s x | .sp => s.sp

/-- The code of `rp` under an index prefix (R69). -/
def xyPairNo : XyPair → Nat
  | .bc => 0 | .de => 1 | .xy => 2 | .sp => 3

/-- `rp2[p]` (R70). -/
def stackPair (s : State) : StackPair → Word
  | .bc => bc s | .de => de s | .hl => hl s | .af => af s

/-- `rp2[p]` written. -/
def putStackPair (s : State) (p : StackPair) (v : Word) : State :=
  match p with
  | .bc => { s with regs := putBc s.regs v } | .de => { s with regs := putDe s.regs v }
  | .hl => { s with regs := putHl s.regs v } | .af => { s with regs := putAf s.regs v }

/-- The code of `rp2` (R70). -/
def stackPairNo : StackPair → Nat
  | .bc => 0 | .de => 1 | .hl => 2 | .af => 3

/-- The effective address of `(XY+d)` (R80): the displacement is signed, the sum is modulo 2^16 (R52). -/
def ea (s : State) (x : Idx) (d : Byte) : Word := BitVec.ofInt 16 ((xy s x).toNat + d.toInt)

/-- The selector an index prefix sets (R85). -/
def selector : Idx → XySel
  | .ix => .ix | .iy => .iy

/-- The state with the operand `(HL)` selected: HL is the active index, no displacement (R33, R34). -/
def atHl (s : State) : State := { s with xySel := .hl, disp := 0#8 }

/-- The state with the operand `(XY+d)` selected (R33, R34). -/
def atXy (s : State) (x : Idx) (d : Byte) : State := { s with xySel := selector x, disp := d }

/-- The state after `raise UnknownOpcode(table, opcode)` (R224). -/
def unknown (s : State) (t : OpTable) (o : Byte) : State :=
  { s with halted := true, diag := { table := t, opcode := o } :: s.diag }

/-- The table an index prefix names in an event (R225). -/
def xyTable : Idx → OpTable
  | .ix => .dd | .iy => .fd

/-- The table of the DDCB and FDCB forms in an event (R225). -/
def xyCbTable : Idx → OpTable
  | .ix => .ddcb | .iy => .fdcb

/-- The undocumented forms execute (R9). -/
def undoc (s : State) : Bool := s.params.undocOpcodes == .z80

/-- The answer of a form that the parameters recognize or not (R97). -/
def orUnknown (ok : Bool) (s : State) (t : OpTable) (o : Byte) (r : State) : Answer :=
  if ok then .next r else .next (unknown s t o)

/-! ## Memory -/

/-- The first region, in registration order, that matches an address (R43, R44). -/
def regionOf (gs : List Region) (a : Word) : Option Region :=
  gs.find? (fun g => decide ((a.toNat + 65536 - g.base.toNat) % 65536 < g.size))

/-- A write at an address reaches a buffer: the first matching region is read-write (R45). -/
def writable (s : State) (a : Word) : Bool :=
  match regionOf s.regions a with
  | some g => g.kind == .rw
  | none => false

/-- `MemRead(a, 2)` (R49). -/
def word (s : State) (a : Word) : Word := wordOf (s.peek (a + 1)) (s.peek a)

/-- The buffers after one byte is stored at `a`: that byte reads as `v` where `a` is writable, every other byte reads as
before (R45, R48). That storing one byte changes no other address rests on the model's choice that each region has a buffer
of its own (notes/assumptions/10.md). -/
def Stored (s : State) (m : List Host.Cell) (a : Word) (v : Byte) : Prop :=
  Memory.wf m = true ∧
  ∀ b : Word, { s with mem := m }.peek b = if b = a ∧ writable s a = true then v else s.peek b

/-- The buffers after a word is stored at `a`, low byte first; every byte but the two reads as before (R49,
notes/assumptions/10.md). -/
def StoredWord (s : State) (m : List Host.Cell) (a v : Word) : Prop :=
  Memory.wf m = true ∧
  ∀ b : Word, { s with mem := m }.peek b =
    if b = a ∧ writable s a = true then low v
    else if b = a + 1 ∧ writable s (a + 1) = true then high v
    else s.peek b

/-- The bus record after a word is read (R49), the byte at `a` before the byte at `a + 1`: R164's order for LD XY,(nn),
the model's choice elsewhere (notes/assumptions/30.md). -/
def readWord (s : State) (a : Word) : List BusEvent :=
  .memRead (a + 1) (s.peek (a + 1)) :: .memRead a (s.peek a) :: s.bus

/-- The bus record after a word is written (R49, D28). -/
def wroteWord (bus : List BusEvent) (a v : Word) : List BusEvent :=
  .memWrite (a + 1) (high v) :: .memWrite a (low v) :: bus

/-- `s` with SP two lower and the word `v` in the two bytes there (R13). -/
def Pushed (s t : State) (v : Word) : Prop :=
  ∃ m, StoredWord s m (s.sp - 2) v ∧
    t = { s with sp := s.sp - 2, mem := m, bus := wroteWord s.bus (s.sp - 2) v }

/-- `s` with the word at SP read and SP two higher (R13; the order of the two reads: notes/assumptions/30.md). -/
def popped (s : State) : State := { s with sp := s.sp + 2, bus := readWord s s.sp }

/-! ## The operand of the 8-bit operations (R105) -/

/-- The five source forms of R105. -/
inductive Src where
  | reg (r : Reg8)
  | mHl
  | imm (n : Byte)
  | mXy (x : Idx) (d : Byte)
  | half (x : Idx) (h : Half)
deriving DecidableEq, Repr

/-- The operation field of R72. -/
inductive AluOp where
  | add | adc | sub | sbc | and | xor | or | cp
deriving DecidableEq, Repr

/-- The field's code (R72). -/
def AluOp.y : AluOp → Nat
  | .add => 0 | .adc => 1 | .sub => 2 | .sbc => 3 | .and => 4 | .xor => 5 | .or => 6 | .cp => 7

/-- The opcode byte of a form (R105). -/
def Src.opcode (src : Src) (op : AluOp) : Byte :=
  match src with
  | .reg r => BitVec.ofNat 8 (0x80 + 8 * op.y + code r)
  | .mHl | .mXy _ _ => BitVec.ofNat 8 (0x86 + 8 * op.y)
  | .imm _ => BitVec.ofNat 8 (0xC6 + 8 * op.y)
  | .half _ h => BitVec.ofNat 8 (0x84 + 8 * op.y + halfNo h)

/-- The bytes of a form (R105). -/
def Src.bytes (src : Src) (op : AluOp) : List Byte :=
  match src with
  | .reg _ | .mHl => [src.opcode op]
  | .imm n => [src.opcode op, n]
  | .mXy x d => [prefixByte x, src.opcode op, d]
  | .half x _ => [prefixByte x, src.opcode op]

/-- The instruction of a form. -/
def Src.instr (src : Src) (op : AluOp) : Instr :=
  match op, src with
  | .add, .reg r => .addAR r | .add, .mHl => .addAMHl | .add, .imm n => .addAN n
  | .add, .mXy x d => .addAMXy x d | .add, .half x h => .addAXyHalf x h
  | .adc, .reg r => .adcAR r | .adc, .mHl => .adcAMHl | .adc, .imm n => .adcAN n
  | .adc, .mXy x d => .adcAMXy x d | .adc, .half x h => .adcAXyHalf x h
  | .sub, .reg r => .subR r | .sub, .mHl => .subMHl | .sub, .imm n => .subN n
  | .sub, .mXy x d => .subMXy x d | .sub, .half x h => .subXyHalf x h
  | .sbc, .reg r => .sbcAR r | .sbc, .mHl => .sbcAMHl | .sbc, .imm n => .sbcAN n
  | .sbc, .mXy x d => .sbcAMXy x d | .sbc, .half x h => .sbcAXyHalf x h
  | .and, .reg r => .andR r | .and, .mHl => .andMHl | .and, .imm n => .andN n
  | .and, .mXy x d => .andMXy x d | .and, .half x h => .andXyHalf x h
  | .xor, .reg r => .xorR r | .xor, .mHl => .xorMHl | .xor, .imm n => .xorN n
  | .xor, .mXy x d => .xorMXy x d | .xor, .half x h => .xorXyHalf x h
  | .or, .reg r => .orR r | .or, .mHl => .orMHl | .or, .imm n => .orN n
  | .or, .mXy x d => .orMXy x d | .or, .half x h => .orXyHalf x h
  | .cp, .reg r => .cpR r | .cp, .mHl => .cpMHl | .cp, .imm n => .cpN n
  | .cp, .mXy x d => .cpMXy x d | .cp, .half x h => .cpXyHalf x h

/-- The operand's value (R105). -/
def Src.value (src : Src) (s : State) : Byte :=
  match src with
  | .reg r => get s.regs r
  | .mHl => s.peek (hl s)
  | .imm n => n
  | .mXy x d => s.peek (ea s x d)
  | .half x h => xyHalf s x h

/-- The answer when the operand's value leaves the main registers as `g` says: a memory operand is read once (R105). -/
def Src.answer (src : Src) (op : AluOp) (s : State) (g : Byte → Regs) : Answer :=
  match src with
  | .reg _ | .imm _ => .next { s with regs := g (src.value s) }
  | .mHl => .next { atHl s with regs := g (src.value s), bus := .memRead (hl s) (src.value s) :: s.bus }
  | .mXy x d => .next { atXy s x d with regs := g (src.value s), bus := .memRead (ea s x d) (src.value s) :: s.bus }
  | .half x _ => orUnknown (undoc s) s (xyTable x) (src.opcode op) { s with regs := g (src.value s) }

/-! ## The targets of INC and DEC (R106) and of the CB operations (R126) -/

/-- The targets of INC and DEC (R106). -/
inductive Tgt where
  | reg (r : Reg8)
  | mHl
  | mXy (x : Idx) (d : Byte)
  | half (x : Idx) (h : Half)
deriving DecidableEq, Repr

/-- The opcode byte of INC (`z = 4`) or DEC (`z = 5`) (R106). -/
def Tgt.opcode (tgt : Tgt) (z : Nat) : Byte :=
  match tgt with
  | .reg r => BitVec.ofNat 8 (8 * code r + z)
  | .mHl | .mXy _ _ => BitVec.ofNat 8 (0x30 + z)
  | .half _ h => BitVec.ofNat 8 (0x20 + 8 * halfNo h + z)

/-- The bytes of INC or DEC (R106). -/
def Tgt.bytes (tgt : Tgt) (z : Nat) : List Byte :=
  match tgt with
  | .reg _ | .mHl => [tgt.opcode z]
  | .mXy x d => [prefixByte x, tgt.opcode z, d]
  | .half x _ => [prefixByte x, tgt.opcode z]

/-- INC of a target. -/
def Tgt.inc : Tgt → Instr
  | .reg r => .incR r | .mHl => .incMHl | .mXy x d => .incMXy x d | .half x h => .incXyHalf x h

/-- DEC of a target. -/
def Tgt.dec : Tgt → Instr
  | .reg r => .decR r | .mHl => .decMHl | .mXy x d => .decMXy x d | .half x h => .decXyHalf x h

/-- A memory target of an operation: one read and one write at the same address, and the new main registers (R106, R126).
`t` is the state with the operand selected. -/
def MemOp (t : State) (a : Word) (res : Byte → Byte) (g : Byte → Regs) (ans : Answer) : Prop :=
  ∃ m, Stored t m a (res (t.peek a)) ∧
    ans = .next
      { t with
        mem := m
        regs := g (t.peek a)
        bus := .memWrite a (res (t.peek a)) :: .memRead a (t.peek a) :: t.bus }

/-- What INC or DEC answers, from the result and the flags of the operand's value. -/
def Tgt.Gives (tgt : Tgt) (z : Nat) (s : State) (res f : Byte → Byte) (ans : Answer) : Prop :=
  match tgt with
  | .reg r =>
    ans = .next { s with regs := put { s.regs with f := f (get s.regs r) } r (res (get s.regs r)) }
  | .mHl => MemOp (atHl s) (hl s) res (fun v => { s.regs with f := f v }) ans
  | .mXy x d => MemOp (atXy s x d) (ea s x d) res (fun v => { s.regs with f := f v }) ans
  | .half x h =>
    ans = orUnknown (undoc s) s (xyTable x) (tgt.opcode z)
      { putHalf s x h (res (xyHalf s x h)) with regs := { s.regs with f := f (xyHalf s x h) } }

/-- The operand forms of the CB table and of DDCB and FDCB (R126). -/
inductive CbTgt where
  | reg (r : Reg8)
  | mHl
  | mXy (x : Idx) (d : Byte)
  | mXyR (x : Idx) (d : Byte) (r : Reg8)
deriving DecidableEq, Repr

/-- The opcode byte from its upper five bits, `8 * k` (R92, R96). -/
def CbTgt.opcode (tgt : CbTgt) (k : Nat) : Byte :=
  match tgt with
  | .reg r | .mXyR _ _ r => BitVec.ofNat 8 (8 * k + code r)
  | .mHl | .mXy _ _ => BitVec.ofNat 8 (8 * k + 6)

/-- The bytes of a CB form; in the indexed forms the displacement stands before the opcode (R126). -/
def CbTgt.bytes (tgt : CbTgt) (k : Nat) : List Byte :=
  match tgt with
  | .reg _ | .mHl => [0xCB#8, tgt.opcode k]
  | .mXy x d | .mXyR x d _ => [prefixByte x, 0xCB#8, d, tgt.opcode k]

/-- What a CB shift, RES or SET answers: the result goes to every place of R126's last column. -/
def CbTgt.Gives (tgt : CbTgt) (k : Nat) (s : State) (res f : Byte → Byte) (ans : Answer) : Prop :=
  match tgt with
  | .reg r =>
    ans = .next { s with regs := put { s.regs with f := f (get s.regs r) } r (res (get s.regs r)) }
  | .mHl => MemOp (atHl s) (hl s) res (fun v => { s.regs with f := f v }) ans
  | .mXy x d => MemOp (atXy s x d) (ea s x d) res (fun v => { s.regs with f := f v }) ans
  | .mXyR x d r =>
    if undoc s then
      MemOp (atXy s x d) (ea s x d) res (fun v => put { s.regs with f := f v } r (res v)) ans
    else ans = .next (unknown s (xyCbTable x) (tgt.opcode k))

/-- The eight CB shifts (R73). -/
inductive Shift where
  | rlc | rrc | rl | rr | sla | sra | sll | srl
deriving DecidableEq, Repr

/-- The shift field (R73). -/
def Shift.y : Shift → Nat
  | .rlc => 0 | .rrc => 1 | .rl => 2 | .rr => 3 | .sla => 4 | .sra => 5 | .sll => 6 | .srl => 7

/-- The instruction of a shift and a form. -/
def Shift.instr (sh : Shift) (tgt : CbTgt) : Instr :=
  match sh, tgt with
  | .rlc, .reg r => .rlcR r | .rlc, .mHl => .rlcMHl | .rlc, .mXy x d => .rlcMXy x d | .rlc, .mXyR x d r => .rlcMXyR x d r
  | .rrc, .reg r => .rrcR r | .rrc, .mHl => .rrcMHl | .rrc, .mXy x d => .rrcMXy x d | .rrc, .mXyR x d r => .rrcMXyR x d r
  | .rl, .reg r => .rlR r | .rl, .mHl => .rlMHl | .rl, .mXy x d => .rlMXy x d | .rl, .mXyR x d r => .rlMXyR x d r
  | .rr, .reg r => .rrR r | .rr, .mHl => .rrMHl | .rr, .mXy x d => .rrMXy x d | .rr, .mXyR x d r => .rrMXyR x d r
  | .sla, .reg r => .slaR r | .sla, .mHl => .slaMHl | .sla, .mXy x d => .slaMXy x d | .sla, .mXyR x d r => .slaMXyR x d r
  | .sra, .reg r => .sraR r | .sra, .mHl => .sraMHl | .sra, .mXy x d => .sraMXy x d | .sra, .mXyR x d r => .sraMXyR x d r
  | .sll, .reg r => .sllR r | .sll, .mHl => .sllMHl | .sll, .mXy x d => .sllMXy x d | .sll, .mXyR x d r => .sllMXyR x d r
  | .srl, .reg r => .srlR r | .srl, .mHl => .srlMHl | .srl, .mXy x d => .srlMXy x d | .srl, .mXyR x d r => .srlMXyR x d r

/-- The result of a shift as a number, `c` being the old carry (R128 to R135). -/
def Shift.result (sh : Shift) (c : Bool) (v : Byte) : Byte :=
  let n := v.toNat
  BitVec.ofNat 8 <| match sh with
    | .rlc => (2 * n + n / 128) % 256
    | .rrc => n / 2 + 128 * (n % 2)
    | .rl => (2 * n + c.toNat) % 256
    | .rr => n / 2 + 128 * c.toNat
    | .sla => 2 * n % 256
    | .sra => n / 2 + 128 * (n / 128)
    | .sll => (2 * n + 1) % 256
    | .srl => n / 2

/-- The bit a shift moves out (R128 to R135). -/
def Shift.out (sh : Shift) (v : Byte) : Bool :=
  match sh with
  | .rlc | .rl | .sla | .sll => decide (128 ≤ v.toNat)
  | .rrc | .rr | .sra | .srl => decide (v.toNat % 2 = 1)

/-- `RES b` of a form. -/
def CbTgt.res (tgt : CbTgt) (b : BitVec 3) : Instr :=
  match tgt with
  | .reg r => .resBR b r | .mHl => .resBMHl b | .mXy x d => .resBMXy x d b | .mXyR x d r => .resBMXyR x d b r

/-- `SET b` of a form. -/
def CbTgt.set (tgt : CbTgt) (b : BitVec 3) : Instr :=
  match tgt with
  | .reg r => .setBR b r | .mHl => .setBMHl b | .mXy x d => .setBMXy x d b | .mXyR x d r => .setBMXyR x d b r

/-- `BIT b` of a form. -/
def CbTgt.bit (tgt : CbTgt) (b : BitVec 3) : Instr :=
  match tgt with
  | .reg r => .bitBR b r | .mHl => .bitBMHl b | .mXy x d => .bitBMXy x d b | .mXyR x d r => .bitBMXyMirror x d b r

/-- A byte with one bit cleared. -/
def clearBit (b : BitVec 3) (v : Byte) : Byte :=
  if bitOf v b.toNat then BitVec.ofNat 8 (v.toNat - 2 ^ b.toNat) else v

/-- A byte with one bit set. -/
def raiseBit (b : BitVec 3) (v : Byte) : Byte :=
  if bitOf v b.toNat then v else BitVec.ofNat 8 (v.toNat + 2 ^ b.toNat)

/-- The flags of BIT: `v` is tested, `src` gives bits 5 and 3 (R136). -/
def bitF (old v src : Byte) (b : BitVec 3) : Byte :=
  let t := bitOf v b.toNat
  fByte (decide (b.toNat = 7) && t) (!t) (bitOf src 5) true (bitOf src 3) (!t) false (cy old)

/-! ## 16-bit arithmetic (R141) -/

/-- An integer outside the signed 16-bit range. -/
def overflow16 (t : Int) : Bool := decide (t < -32768) || decide (32767 < t)

/-- `a + b + c` modulo 2^16. -/
def sum16 (a b : Word) (c : Bool) : Word := BitVec.ofNat 16 (a.toNat + b.toNat + c.toNat)

/-- `a - b - c` modulo 2^16. -/
def diff16 (a b : Word) (c : Bool) : Word := BitVec.ofInt 16 ((a.toNat : Int) - b.toNat - c.toNat)

/-- The carry of an addition out of bit 11 (R141). -/
def half16 (a b : Word) (c : Bool) : Bool := decide (4096 ≤ a.toNat % 4096 + b.toNat % 4096 + c.toNat)

/-- The carry of an addition out of bit 15 (R141). -/
def carry16 (a b : Word) (c : Bool) : Bool := decide (65536 ≤ a.toNat + b.toNat + c.toNat)

/-- The flags of ADC HL,rr (R143). -/
def adcF (a b : Word) (c : Bool) : Byte :=
  let r := sum16 a b c
  fByte (decide (32768 ≤ r.toNat)) (decide (r.toNat = 0)) (bitOf (high r) 5) (half16 a b c) (bitOf (high r) 3)
    (overflow16 (a.toInt + b.toInt + c.toNat)) false (carry16 a b c)

/-- The flags of SBC HL,rr (R144). -/
def sbcF (a b : Word) (c : Bool) : Byte :=
  let r := diff16 a b c
  fByte (decide (32768 ≤ r.toNat)) (decide (r.toNat = 0)) (bitOf (high r) 5)
    (decide (a.toNat % 4096 < b.toNat % 4096 + c.toNat)) (bitOf (high r) 3)
    (overflow16 (a.toInt - b.toInt - c.toNat)) true (decide (a.toNat < b.toNat + c.toNat))

/-! ## Conditions -/

/-- The table of conditions (R71). -/
def condTrue (f : Byte) : Cond → Bool
  | .nz => !bitOf f 6 | .z => bitOf f 6
  | .nc => !bitOf f 0 | .c => bitOf f 0
  | .po => !bitOf f 2 | .pe => bitOf f 2
  | .p => !bitOf f 7 | .m => bitOf f 7

/-- The code of a condition (R71). -/
def condNo : Cond → Nat
  | .nz => 0 | .z => 1 | .nc => 2 | .c => 3 | .po => 4 | .pe => 5 | .p => 6 | .m => 7

/-- The four conditions of JR (R71). -/
def jrCond : JrCond → Cond
  | .nz => .nz | .z => .z | .nc => .nc | .c => .c

/-- The target of a relative jump: PC after the offset byte plus the signed offset, modulo 2^16 (R78). -/
def relative (s : State) (e : Byte) : Word := BitVec.ofInt 16 (s.pc.toNat + e.toInt)

/-- The budget after the conditional extra of the default table is charged (R256); the parameter's own entry is used where
there is one. -/
def extra (s : State) (i : Instr) (n : Nat) : Int :=
  if s.params.cycleCost = [] then s.budget - n else s.budget - (i.extraCost s.params : Nat)

/-! ## Ports -/

/-- The first peripheral, in registration order, that matches a port, with its number (R54). -/
def device : List Peripheral → Word → Option (Nat × Peripheral)
  | [], _ => none
  | d :: ds, p =>
    if p &&& d.mask = d.pattern then some (0, d) else (device ds p).map (fun q => (q.1 + 1, q.2))

/-- The peripheral whose read callback is called (R55). -/
def reader (s : State) (p : Word) : Option Nat :=
  match device s.peripherals p with
  | some (k, d) => if d.hasRead then some k else none
  | none => none

/-- The peripheral whose write callback is called (R56). -/
def writer (s : State) (p : Word) : Option Nat :=
  match device s.peripherals p with
  | some (k, d) => if d.hasWrite then some k else none
  | none => none

/-- The state after a draw, for the byte drawn (D37): the environment's next byte, or any byte. -/
def drew (s : State) : Byte × State :=
  match s.inputs with
  | b :: bs => (b, { s with inputs := bs })
  | [] => (Config.freeByte s.draws, { s with draws := s.draws + 1 })

/-- `IORead(p)`: the byte and the state with the transaction recorded (R55). -/
def input (s : State) (p : Word) : Byte × State :=
  match reader s p with
  | some k => ((drew s).1, { (drew s).2 with bus := .ioRead p (drew s).1 (some k) :: s.bus })
  | none => (0x00#8, { s with bus := .ioRead p 0x00#8 none :: s.bus })

/-- `IOWrite(p, v)`: the state with the transaction recorded (R56). -/
def output (s : State) (p : Word) (v : Byte) : State :=
  { s with bus := .ioWrite p v (writer s p) :: s.bus }

/-! ## Fetching and stepping -/

/-- `n` bytes read at PC by the fetch, on the bus record, the newest first (R238). -/
def fetchLog (s : State) : Nat → List BusEvent
  | 0 => s.bus
  | n + 1 => .memRead (s.pc + BitVec.ofNat 16 n) (s.peek (s.pc + BitVec.ofNat 16 n)) :: fetchLog s n

/-- R after `n` M1 fetches: bits 6:0 count modulo 128, bit 7 is kept (R27). -/
def countedR (r : Byte) (n : Nat) : Byte :=
  BitVec.ofNat 8 (r.toNat / 128 * 128 + (r.toNat % 128 + n) % 128)

/-- A `run` call is in progress (R36). -/
def inRun (s : State) : Prop := s.phase ≠ .idle

/-- At an instruction boundary of a `run` call whose loop goes on (R234, R237). -/
def Ready (s : State) : Prop :=
  inRun s ∧ s.boundary = true ∧ s.halted = false ∧ (s.phase = .untilHalt ∨ 0 < s.budget)

/-- The signed 32-bit range (R32). -/
def InRange (b : Int) : Prop := -2147483648 ≤ b ∧ b ≤ 2147483647

/-- A list that only grew: events are added in front, none is lost or changed (R37). -/
def Grew {α : Type} (old new : List α) : Prop := ∃ l, new = l ++ old

/-- One BCD byte's number. -/
def bcd (v : Byte) : Nat := v.toNat / 16 * 10 + v.toNat % 16

/-- Both digits of a byte are decimal. -/
def isBcd (v : Byte) : Bool := decide (v.toNat / 16 < 10) && decide (v.toNat % 16 < 10)

/-! ## Encoding facts written from the spec's lists -/

/-- The third list of R86: the undocumented forms with a half of the index register. -/
def halfForms : List Nat :=
  [0x24, 0x25, 0x26, 0x2C, 0x2D, 0x2E] ++
  [0x44, 0x45, 0x4C, 0x4D, 0x54, 0x55, 0x5C, 0x5D, 0x60, 0x61, 0x62, 0x63, 0x64, 0x65] ++
  [0x67, 0x68, 0x69, 0x6A, 0x6B, 0x6C, 0x6D, 0x6F, 0x7C, 0x7D] ++
  [0x84, 0x85, 0x8C, 0x8D, 0x94, 0x95, 0x9C, 0x9D, 0xA4, 0xA5, 0xAC, 0xAD, 0xB4, 0xB5, 0xBC, 0xBD]

/-- The index-affected opcodes of the first and third lists of R86, no displacement. -/
def plainAffected : List Nat :=
  [0x21, 0x22, 0x2A, 0x23, 0x2B, 0x09, 0x19, 0x29, 0x39, 0xE1, 0xE5, 0xE3, 0xE9, 0xF9] ++ halfForms

/-- The second list of R86: the memory operand becomes `(XY+d)`. -/
def displaced : List Nat :=
  [0x34, 0x35, 0x36, 0x46, 0x4E, 0x56, 0x5E, 0x66, 0x6E, 0x7E, 0x70, 0x71, 0x72, 0x73, 0x74, 0x75, 0x77] ++
  [0x86, 0x8E, 0x96, 0x9E, 0xA6, 0xAE, 0xB6, 0xBE]

/-- The index-affected opcodes (R86). -/
def affected (o : Byte) : Bool := (plainAffected ++ displaced).contains o.toNat

/-- The opcodes with one immediate byte (R99). -/
def oneImm : List Nat :=
  [0x06, 0x0E, 0x16, 0x1E, 0x26, 0x2E, 0x36, 0x3E, 0xC6, 0xCE, 0xD6, 0xDE, 0xE6, 0xEE, 0xF6, 0xFE] ++
  [0xD3, 0xDB, 0x10, 0x18, 0x20, 0x28, 0x30, 0x38]

/-- The opcodes with two immediate bytes (R99). -/
def twoImm : List Nat :=
  [0x01, 0x11, 0x21, 0x31, 0x22, 0x2A, 0x32, 0x3A, 0xC3, 0xC2, 0xCA, 0xD2, 0xDA, 0xE2, 0xEA, 0xF2, 0xFA] ++
  [0xCD, 0xC4, 0xCC, 0xD4, 0xDC, 0xE4, 0xEC, 0xF4, 0xFC]

/-- The length of a base opcode with its immediates (R99). -/
def baseLength (o : Byte) : Nat :=
  1 + (if oneImm.contains o.toNat then 1 else if twoImm.contains o.toNat then 2 else 0)

/-- The ED opcodes that carry an address (R99). -/
def edLong : List Nat := [0x43, 0x4B, 0x53, 0x5B, 0x63, 0x6B, 0x73, 0x7B]

/-- The length of the instruction that starts with the bytes `a` and `b` (R99). A DD or FD byte that takes no part in the
opcode after it is one byte long (notes/assumptions/6.md). -/
def lengthOf (a b : Byte) : Nat :=
  if a = 0xCB#8 then 2
  else if a = 0xED#8 then (if edLong.contains b.toNat then 4 else 2)
  else if a = 0xDD#8 ∨ a = 0xFD#8 then
    if b = 0xCB#8 then 4
    else if displaced.contains b.toNat then 2 + baseLength b
    else if plainAffected.contains b.toNat then 1 + baseLength b
    else 1
  else baseLength a

/-- The M1 fetches of that instruction (R82). -/
def m1Of (a b : Byte) : Nat :=
  if a = 0xCB#8 ∨ a = 0xED#8 then 2
  else if (a = 0xDD#8 ∨ a = 0xFD#8) ∧ (b = 0xCB#8 ∨ affected b = true) then 2
  else 1

/-- The number of DD and FD bytes the instruction with the first byte `a` takes in, each of which costs 4 (R81, R256). -/
def prefixesOf (a : Byte) : Nat := if a = 0xDD#8 ∨ a = 0xFD#8 then 1 else 0

/-- A DD or FD byte that takes no part in the opcode `b` after it (R84, R87, R88): a step of its own in the model
(notes/assumptions/6.md). -/
def prefixAlone (a b : Byte) : Bool :=
  (decide (a = 0xDD#8) || decide (a = 0xFD#8)) && !decide (b = 0xCB#8) && !affected b

/-- The holes of the ED table: every opcode outside rows 4 to 7, less 77 and 7F, and outside the sixteen block opcodes
(R93). -/
def isHole (o : Byte) : Bool :=
  decide (o.toNat < 0x40) || decide (o = 0x77#8) || decide (o = 0x7F#8) || decide (0x80 ≤ o.toNat ∧ o.toNat < 0xA0) ||
  decide (0xA0 ≤ o.toNat ∧ o.toNat < 0xC0 ∧ 4 ≤ o.toNat % 8) || decide (0xC0 ≤ o.toNat)

/-- The undocumented ED opcodes: the mirrors of NEG, RETN and IM, `IN (C)` and `OUT (C),0` (R93, R97). -/
def edUndocumented : List Nat :=
  [0x4C, 0x54, 0x5C, 0x64, 0x6C, 0x74, 0x7C, 0x55, 0x5D, 0x65, 0x6D, 0x75, 0x7D] ++
  [0x4E, 0x66, 0x6E, 0x76, 0x7E, 0x70, 0x71]

/-- The block I/O opcodes (R93, R97). -/
def edBlockIo : List Nat := [0xA2, 0xA3, 0xAA, 0xAB, 0xB2, 0xB3, 0xBA, 0xBB]

/-- Whether an instruction is unknown under the parameters, by the table of R97, from its first two bytes `a` and `b` and,
for DDCB and FDCB, its fourth byte `d`, the opcode. -/
def unknownOf (p : Params) (a b d : Byte) : Bool :=
  if a = 0xED#8 then
    (isHole b && p.edHoles == .unknown) ||
    (edUndocumented.contains b.toNat && p.undocOpcodes == .unknown) ||
    (edBlockIo.contains b.toNat && p.blockIo == .unknown)
  else if a = 0xDD#8 ∨ a = 0xFD#8 then
    p.undocOpcodes == .unknown && (if b = 0xCB#8 then decide (d.toNat % 8 ≠ 6) else halfForms.contains b.toNat)
  else false

/-- The bytes that are fetched of an instruction: its length, or, where it is unknown, the bytes up to and including the
opcode: prefix and opcode, or DD or FD, CB, displacement and opcode (R99, R224). -/
def consumedOf (p : Params) (a b d : Byte) : Nat :=
  if unknownOf p a b d = true then (if a ≠ 0xED#8 ∧ b = 0xCB#8 then 4 else 2) else lengthOf a b

/-- The base cost table of R256, the cells of the four prefix bytes 0: rows 0 to 7. -/
def baseCostsLow : List Nat :=
  [4, 10, 7, 6, 4, 4, 7, 4, 4, 11, 7, 6, 4, 4, 7, 4] ++
  [8, 10, 7, 6, 4, 4, 7, 4, 12, 11, 7, 6, 4, 4, 7, 4] ++
  [7, 10, 16, 6, 4, 4, 7, 4, 7, 11, 16, 6, 4, 4, 7, 4] ++
  [7, 10, 13, 6, 11, 11, 10, 4, 7, 11, 13, 6, 4, 4, 7, 4] ++
  [4, 4, 4, 4, 4, 4, 7, 4, 4, 4, 4, 4, 4, 4, 7, 4] ++
  [4, 4, 4, 4, 4, 4, 7, 4, 4, 4, 4, 4, 4, 4, 7, 4] ++
  [4, 4, 4, 4, 4, 4, 7, 4, 4, 4, 4, 4, 4, 4, 7, 4] ++
  [7, 7, 7, 7, 7, 7, 4, 7, 4, 4, 4, 4, 4, 4, 7, 4]

/-- The base cost table of R256: rows C to F. -/
def baseCostsHigh : List Nat :=
  [5, 10, 10, 10, 10, 11, 7, 11, 5, 10, 10, 0, 10, 17, 7, 11] ++
  [5, 10, 10, 11, 10, 11, 7, 11, 5, 4, 10, 11, 10, 0, 7, 11] ++
  [5, 10, 10, 19, 10, 11, 7, 11, 5, 4, 10, 4, 10, 0, 7, 11] ++
  [5, 10, 10, 4, 10, 11, 7, 11, 5, 6, 10, 4, 10, 0, 7, 11]

/-- The base table's cost of an opcode (R256). -/
def baseCostOf (o : Byte) : Nat :=
  if o.toNat < 128 then baseCostsLow.getD o.toNat 0
  else if o.toNat < 192 then (if o.toNat % 8 = 6 then 7 else 4)
  else baseCostsHigh.getD (o.toNat - 192) 0

/-- The form's cost after a DD or FD prefix, by the list of index-substituted forms (R256). -/
def xyCostOf (o : Byte) : Nat :=
  if o.toNat = 0x34 ∨ o.toNat = 0x35 then 19
  else if displaced.contains o.toNat then 15
  else baseCostOf o

/-- The rows 4 to 7 of the ED cost table (R256). -/
def edCosts : List Nat :=
  [12, 12, 15, 20, 8, 14, 8, 9, 12, 12, 15, 20, 8, 14, 8, 9] ++
  [12, 12, 15, 20, 8, 14, 8, 9, 12, 12, 15, 20, 8, 14, 8, 9] ++
  [12, 12, 15, 20, 8, 14, 8, 18, 12, 12, 15, 20, 8, 14, 8, 18] ++
  [12, 12, 15, 20, 8, 14, 8, 8, 12, 12, 15, 20, 8, 14, 8, 8]

/-- The ED table's cost of an opcode, 8 for a hole (R256). -/
def edCostOf (o : Byte) : Nat :=
  if 0x40 ≤ o.toNat ∧ o.toNat < 0x80 then edCosts.getD (o.toNat - 0x40) 0
  else if 0xA0 ≤ o.toNat ∧ o.toNat < 0xC0 ∧ o.toNat % 8 < 4 then 16
  else 8

/-- The CB table's cost of an opcode (R256). -/
def cbCostOf (o : Byte) : Nat :=
  if o.toNat % 8 = 6 then (if o.toNat / 64 = 1 then 12 else 15) else 8

/-- The DDCB and FDCB tables' cost of an opcode (R256). -/
def xyCbCostOf (o : Byte) : Nat := if o.toNat / 64 = 1 then 16 else 19

/-- The flags of the transfer step (R177). -/
def ldBlockF (old a v : Byte) (count : Word) : Byte :=
  let n := sum8 a v false
  fByte (bitOf old 7) (bitOf old 6) (bitOf n 1) false (bitOf n 3) (decide (count.toNat ≠ 0)) false (cy old)

/-- The flags of the compare step (R182). -/
def cpBlockF (old a v : Byte) (count : Word) : Byte :=
  let r := diff8 a v false
  let h := decide (a.toNat % 16 < v.toNat % 16)
  let n := diff8 r 0#8 h
  fByte (decide (128 ≤ r.toNat)) (decide (r.toNat = 0)) (bitOf n 1) h (bitOf n 3) (decide (count.toNat ≠ 0)) true (cy old)

/-- The flags of the block I/O steps from the byte, `k` and B after the decrement (R187). -/
def ioBlockF (v : Byte) (k : Nat) (b : Byte) : Byte :=
  fByte (decide (128 ≤ b.toNat)) (decide (b.toNat = 0)) (bitOf b 5) (decide (255 < k)) (bitOf b 3)
    (evenBits (BitVec.ofNat 8 (k % 8) ^^^ b)) (bitOf v 7) (decide (255 < k))

/-- `w + 1` or `w - 1` modulo 2^16: a block instruction's step (R175). -/
def moved (up : Bool) (w : Word) : Word := if up then w + 1 else w - 1

/-- `again`: PC goes back by 2 and the repeat extra of 5 is charged (R176, R256). -/
def repeats (again : Bool) (s : State) (i : Instr) (t : State) : State :=
  if again then { t with pc := s.pc - 2, budget := extra s i 5 } else t

/-- LDI and LDD (`rep = false`), LDIR and LDDR (R178 to R181). -/
def ldBlock : Bool → Bool → Instr
  | false, true => .ldi | false, false => .ldd | true, true => .ldir | true, false => .lddr

/-- CPI, CPD, CPIR and CPDR (R183 to R186). -/
def cpBlock : Bool → Bool → Instr
  | false, true => .cpi | false, false => .cpd | true, true => .cpir | true, false => .cpdr

/-- INI, IND, INIR and INDR (R189 to R192). -/
def inBlock : Bool → Bool → Instr
  | false, true => .ini | false, false => .ind | true, true => .inir | true, false => .indr

/-- OUTI, OUTD, OTIR and OTDR (R193 to R196). -/
def outBlock : Bool → Bool → Instr
  | false, true => .outi | false, false => .outd | true, true => .otir | true, false => .otdr

/-- The ED opcode of a block instruction: bit 4 repeats, bit 3 decrements, bits 1:0 the group (R175). -/
def blockOpcode (rep up : Bool) (group : Nat) : Byte :=
  BitVec.ofNat 8 (0xA0 + 16 * rep.toNat + 8 * (!up).toNat + group)

/-- The state when an interrupt has been accepted, but for PC (R229): `m` are the buffers after the push. -/
def entered (s : State) (m : List Host.Cell) (cost : Nat) : State :=
  { s with
    r := countedR s.r 1
    sp := s.sp - 2
    mem := m
    bus := wroteWord s.bus (s.sp - 2) s.pc
    halted := false
    budget := s.budget - cost }

/-- No interrupt can be accepted (R228). -/
def NoInterrupt (s : State) : Prop := s.nmiPending = false ∧ (s.irqPending = false ∨ s.iff0 = false)

/-- The maskable interrupt is the one that is accepted (R228, R231). -/
def IrqNext (s : State) : Prop := s.nmiPending = false ∧ s.irqPending = true ∧ s.iff0 = true

/-- The flip-flops and the flag after the acceptance of a maskable interrupt (R231). -/
def irqTaken (s : State) : State := { s with iff0 := false, iff1 := false, irqPending := false }

/-- A region matches an address (R43). -/
def hits (g : Region) (a : Word) : Prop := (a.toNat + 65536 - g.base.toNat) % 65536 < g.size

/-- Region number `k` is the first that matches an address (R44). -/
def FirstHit (gs : List Region) (k : Nat) (g : Region) (a : Word) : Prop :=
  gs[k]? = some g ∧ hits g a ∧ ∀ j g', j < k → gs[j]? = some g' → ¬ hits g' a

/-- The accessor name of a register of the main file (R38). -/
def mainReg : Reg8 → AccReg8
  | .b => .b | .c => .c | .d => .d | .e => .e | .h => .h | .l => .l | .a => .a

/-- The accessor name of a register of the shadow file (R38). -/
def shadowReg : Reg8 → AccReg8
  | .b => .b' | .c => .c' | .d => .d' | .e => .e' | .h => .h' | .l => .l' | .a => .a'

/-- A flag byte with one flag written and the seven others kept (R21). -/
def withFlag (f : Byte) (k : FlagName) (v : Bool) : Byte :=
  let bit (j : FlagName) (n : Nat) : Bool := if k = j then v else bitOf f n
  fByte (bit .s 7) (bit .z 6) (bit .f5 5) (bit .h 4) (bit .f3 3) (bit .pv 2) (bit .n 1) (bit .c 0)

end Sys2Proof.Claims

open Sys2Proof Sys2Proof.Machine Sys2Proof.Claims

/-- O1. One or more byte sequences of every family (8-bit arithmetic, rotates and bits, 16-bit arithmetic, loads,
block, control transfer, ports, CPU control, prefixes, holes), written out from the opcode maps, decode to the
instruction they stand for. -/
def Obligations.DecodesSpecWords : Prop :=
  decode [0x00#8] = .ok .nop ∧ decode [0x80#8] = .ok (.addAR .b) ∧ decode [0xCE#8, 0x10#8] = .ok (.adcAN 0x10#8) ∧
  decode [0xDD#8, 0x86#8, 0xFF#8] = .ok (.addAMXy .ix 0xFF#8) ∧ decode [0xFD#8, 0xBD#8] = .ok (.cpXyHalf .iy .lo) ∧
  decode [0x34#8] = .ok .incMHl ∧ decode [0x27#8] = .ok .daa ∧ decode [0xCB#8, 0x12#8] = .ok (.rlR .d) ∧
  decode [0xCB#8, 0xDD#8] = .ok (.setBR 3 .l) ∧ decode [0xDD#8, 0xCB#8, 0x02#8, 0xC6#8] = .ok (.setBMXy .ix 0x02#8 0) ∧
  decode [0xDD#8, 0xCB#8, 0x02#8, 0x00#8] = .ok (.rlcMXyR .ix 0x02#8 .b) ∧
  decode [0xFD#8, 0xCB#8, 0xFE#8, 0x16#8] = .ok (.rlMXy .iy 0xFE#8) ∧ decode [0x09#8] = .ok (.addHlRp .bc) ∧
  decode [0xED#8, 0x52#8] = .ok (.sbcHlRp .de) ∧ decode [0xDD#8, 0x29#8] = .ok (.addXyRp .ix .xy) ∧
  decode [0x01#8, 0x34#8, 0x12#8] = .ok (.ldRpNn .bc 0x1234#16) ∧
  decode [0xDD#8, 0x36#8, 0x05#8, 0x99#8] = .ok (.ldMXyN .ix 0x05#8 0x99#8) ∧
  decode [0xDD#8, 0x65#8] = .ok (.ldXyHalfS .ix .hi .xyl) ∧ decode [0xDD#8, 0x66#8, 0x01#8] = .ok (.ldRMXy .ix .h 0x01#8) ∧
  decode [0xED#8, 0x73#8, 0x00#8, 0x40#8] = .ok (.ldMNnRp .sp 0x4000#16) ∧ decode [0xED#8, 0x5F#8] = .ok .ldAR ∧
  decode [0xE3#8] = .ok .exMSpHl ∧ decode [0xED#8, 0xB0#8] = .ok .ldir ∧ decode [0xED#8, 0xB9#8] = .ok .cpdr ∧
  decode [0xED#8, 0xA3#8] = .ok .outi ∧ decode [0x20#8, 0x80#8] = .ok (.jrCc .nz 0x80#8) ∧
  decode [0xDC#8, 0x00#8, 0x20#8] = .ok (.callCcNn .c 0x2000#16) ∧ decode [0xFF#8] = .ok (.rst 7) ∧
  decode [0xED#8, 0x45#8] = .ok .retn ∧ decode [0xED#8, 0x4D#8] = .ok .reti ∧ decode [0xD3#8, 0xFE#8] = .ok (.outNA 0xFE#8) ∧
  decode [0xED#8, 0x70#8] = .ok .inC ∧ decode [0x76#8] = .ok .halt ∧ decode [0xED#8, 0x76#8] = .ok .im1Mirror ∧
  decode [0xED#8, 0x77#8] = .ok (.edHole 0x77#8) ∧ decode [0xDD#8, 0xEB#8] = .ok (.xyPrefixHlNotUsed .ix 0xEB#8) ∧
  decode [0xDD#8, 0xFD#8] = .ok .prefixDd ∧ decode [0xFD#8, 0xED#8, 0x44#8] = .ok (.xyPrefixBeforeEd .iy)

/-- O2. For every well-formed instruction i, with every operand at every value: decode of encode i is i; and so it
is with any bytes after it, unless i is one of the four prefix bytes alone, which the byte after them belongs
to. -/
def Obligations.DecodeOfEncode : Prop :=
  ∀ i : Instr, i.wf = true →
    decode (encode i) = .ok i ∧
    ∀ rest : List Byte, i ≠ .prefixCb → i ≠ .prefixEd → i ≠ .prefixDd → i ≠ .prefixFd →
      decode (encode i ++ rest) = .ok i

/-- O3. If the decoder reads i from a list of bytes, then i is well-formed and the list begins with the bytes of
encode i: no bit of an opcode or operand is dropped, and no two instructions share a byte sequence. -/
def Obligations.EncodeOfDecode : Prop :=
  ∀ (bs : List Byte) (i : Instr), decode bs = .ok i → i.wf = true ∧ ∃ rest, bs = encode i ++ rest

/-- O4. For any four bytes, the instruction decoded from them consumes the number of bytes that R99 computes from
the first two (prefix, opcode, displacement, immediates) and makes the M1 fetches R82 counts; it has one DD or
FD prefix to charge if its first byte is one, else none (R81); it is a prefix byte alone exactly where a DD or
FD byte takes no part in the opcode after it; and for every value of the parameters it is recognized unless the
table of R97 lists it, and the fetch reads its whole length if it is recognized, else the bytes up to and
including its opcode: 2, or 4 after DD CB and FD CB (R224). These are the numbers by which FetchAdvances moves
PC, counts R, records the bytes and charges 4 for the prefix. A DD or FD byte that takes no part in the opcode
after it counts as one byte and one M1 fetch of its own: the model's step for it (assumption 6). That an unknown
form's immediate byte is not fetched is read from R224 (assumption 16). -/
def Obligations.LengthAndFetchCounts : Prop :=
  ∀ (a b c d : Byte) (i : Instr), decode [a, b, c, d] = .ok i →
    i.size = lengthOf a b ∧ i.m1 = m1Of a b ∧ i.indexPrefixes = prefixesOf a ∧ i.isPrefix = prefixAlone a b ∧
    ∀ p : Params, i.recognized p = !unknownOf p a b d ∧ i.fetchSize p = consumedOf p a b d

/-- O5. With the default parameters: the form's cost of the instruction decoded from any bytes is the entry of
R256's table for its opcode byte (base, CB, ED, index-substituted, DDCB/FDCB), the prefix itself apart, and the
conditional extras are 5 for DJNZ and JR cc, 7 for CALL cc, 6 for RET cc, 0 for JP cc and 5 for the repeating
block forms. -/
def Obligations.CostsOfTheForms : Prop :=
  (∀ (a b c d : Byte) (i : Instr), decode [a, b, c, d] = .ok i →
    a ≠ 0xCB#8 → a ≠ 0xED#8 → a ≠ 0xDD#8 → a ≠ 0xFD#8 → i.baseCost Params.default = baseCostOf a) ∧
  (∀ (b c d : Byte) (i : Instr), decode [0xCB#8, b, c, d] = .ok i → i.baseCost Params.default = cbCostOf b) ∧
  (∀ (b c d : Byte) (i : Instr), decode [0xED#8, b, c, d] = .ok i → i.baseCost Params.default = edCostOf b) ∧
  (∀ (x : Idx) (b c d : Byte) (i : Instr), decode [prefixByte x, b, c, d] = .ok i → b ≠ 0xCB#8 →
    i.baseCost Params.default = if affected b then xyCostOf b else 0) ∧
  (∀ (x : Idx) (c d : Byte) (i : Instr), decode [prefixByte x, 0xCB#8, c, d] = .ok i →
    i.baseCost Params.default = xyCbCostOf d) ∧
  (∀ e, (Instr.djnz e).extraCost Params.default = 5) ∧
  (∀ cc e, (Instr.jrCc cc e).extraCost Params.default = 5) ∧
  (∀ cc nn, (Instr.callCcNn cc nn).extraCost Params.default = 7) ∧
  (∀ cc, (Instr.retCc cc).extraCost Params.default = 6) ∧
  (∀ cc nn, (Instr.jpCcNn cc nn).extraCost Params.default = 0) ∧
  (∀ up, (ldBlock true up).extraCost Params.default = 5 ∧ (cpBlock true up).extraCost Params.default = 5 ∧
    (inBlock true up).extraCost Params.default = 5 ∧ (outBlock true up).extraCost Params.default = 5)

/-- O6. When a run call goes on at an instruction boundary and the four bytes at PC decode to i, the step is exec i
in the state after the fetch of i, followed by the end of the instruction: nothing after a prefix byte, else the
decoder state of a boundary and the check that the budget is in the signed 32-bit range. Three clauses are the
model's choice and not the rules' words: that a prefix byte is a step of its own with no boundary after it
(assumption 6), that the decoder state of a boundary is set at the end of an instruction (assumption 7: R81 sets
it at the start of a Step), and that the range is tested there (assumption 11). -/
def Obligations.StepRunsDecodedInstruction : Prop :=
  (∀ (s : State) (i : Instr), Ready s →
    decode [s.peek s.pc, s.peek (s.pc + 1), s.peek (s.pc + 2), s.peek (s.pc + 3)] = .ok i →
    step s = andThen (exec i (s.afterFetch { instr := i, seen := 0 })) (finish i)) ∧
  (∀ (i : Instr) (t : State), i.isPrefix = true → finish i t = .next t) ∧
  (∀ (i : Instr) (t : State), i.isPrefix = false → InRange t.budget →
    finish i t = .next { t with xySel := .hl, disp := 0#8, pfx := .none }) ∧
  (∀ (i : Instr) (t : State), i.isPrefix = false → ¬ InRange t.budget → finish i t = .refused .budgetRange)

/-- O7. The state in which an instruction runs differs from the one before it in this only: PC is past the bytes
consumed (modulo 2^16), bits 6:0 of R have counted the M1 fetches and bit 7 is kept, the bytes are on the bus
record in order, and the cost is charged: 4 for a DD or FD byte not charged before, and the form's cost unless
the opcode is unknown. How many bytes, M1 fetches and prefixes these are, and which opcodes are unknown, is
LengthAndFetchCounts; the form's cost is CostsOfTheForms. The model's choice, not the rules' words: that the
cost is charged at the fetch (assumption 11: R235 charges it once, after the instruction has finished), that an
unknown form's immediate byte is not fetched (assumption 16, read from R224), that a DD or FD byte of its own is
fetched in a step of its own (assumption 6), and the form of CYCLE_COST (assumption 21). -/
def Obligations.FetchAdvances : Prop :=
  ∀ (s : State) (f : Fetched),
    s.afterFetch f =
      { s with
        pc := s.pc + BitVec.ofNat 16 (f.instr.fetchSize s.params - f.seen)
        r := countedR s.r (f.instr.m1 - f.seen)
        bus := fetchLog s (f.instr.fetchSize s.params - f.seen)
        budget := s.budget - (((if f.seen = 0 then 4 * f.instr.indexPrefixes else 0) +
          (if f.instr.recognized s.params ∧ f.instr.isPrefix = false then f.instr.baseCost s.params else 0) : Nat) : Int) }

/-- O8. DD and FD (alone, before an opcode that does not use HL, or before ED) set the active index to IX or IY; CB
sets the pending prefix; ED sets the pending prefix and the active index back to HL; nothing else changes. -/
def Obligations.PrefixInstructions : Prop :=
  ∀ s : State,
    exec .prefixDd s = .next { s with xySel := .ix } ∧ exec .prefixFd s = .next { s with xySel := .iy } ∧
    exec .prefixCb s = .next { s with pfx := .cb } ∧ exec .prefixEd s = .next { s with pfx := .ed, xySel := .hl } ∧
    (∀ x o, exec (.xyPrefixHlNotUsed x o) s = .next { s with xySel := selector x }) ∧
    (∀ x, exec (.xyPrefixBeforeEd x) s = .next { s with xySel := selector x })

/-- O9. In a run: (1) at a boundary, a DD or FD byte before DD, FD, ED or an opcode that is not index-affected is
one step (the model's, assumption 6) that only selects its register, advances PC and R by 1, is recorded on the
bus and charges 4 there (assumption 11); (2) after such bytes the next DD or FD byte selects anew, in the same
way; (3) an index-affected opcode or CB is executed as after the last DD or FD byte; (4) any other byte is
executed as without the prefix. -/
def Obligations.IndexPrefixSteps : Prop :=
  (∀ (s : State) (x : Idx), inRun s → s.pfx = .none →
    (Ready s ∨ s.midInstr = true) → s.peek s.pc = prefixByte x →
    (s.peek (s.pc + 1) = 0xDD#8 ∨ s.peek (s.pc + 1) = 0xFD#8 ∨ s.peek (s.pc + 1) = 0xED#8 ∨
      (s.peek (s.pc + 1) ≠ 0xCB#8 ∧ affected (s.peek (s.pc + 1)) = false)) →
    step s = .next
      { s with
        xySel := selector x
        pc := s.pc + 1
        r := countedR s.r 1
        bus := .memRead s.pc (prefixByte x) :: s.bus
        budget := s.budget - 4 }) ∧
  (∀ (s : State) (x : Idx) (i : Instr), inRun s → s.pfx = .none → s.xySel = selector x →
    (affected (s.peek s.pc) = true ∨ s.peek s.pc = 0xCB#8) →
    decode [prefixByte x, s.peek s.pc, s.peek (s.pc + 1), s.peek (s.pc + 2), s.peek (s.pc + 3)] = .ok i →
    step s = andThen (exec i (s.afterFetch { instr := i, seen := 1 })) (finish i)) ∧
  (∀ (s : State) (x : Idx) (i : Instr), inRun s → s.pfx = .none → s.xySel = selector x →
    affected (s.peek s.pc) = false → s.peek s.pc ≠ 0xCB#8 →
    decode [s.peek s.pc, s.peek (s.pc + 1), s.peek (s.pc + 2), s.peek (s.pc + 3)] = .ok i →
    step s = andThen (exec i (s.afterFetch { instr := i, seen := 0 })) (finish i))

/-- O10. If every address reads DD or FD, every step inside a run that goes on answers a next state that is inside
an instruction (no boundary, so the budget is never tested) and in which every address still reads the same
byte, whatever the budget is. -/
def Obligations.EndlessPrefixesNeverEnd : Prop :=
  ∀ s : State, inRun s → s.pfx = .none → (Ready s ∨ s.midInstr = true) →
    (∀ a : Word, s.peek a = 0xDD#8 ∨ s.peek a = 0xFD#8) →
    ∃ t, step s = .next t ∧ inRun t ∧ t.pfx = .none ∧ t.midInstr = true ∧ t.pc = s.pc + 1 ∧
      ∀ a : Word, t.peek a = s.peek a

/-- O11. At an instruction boundary of a run call: a halted core leaves the run with its budget set to 0, in either
mode; a core that is not halted leaves it in budget mode when the budget is not positive, keeping the budget;
nothing else changes. It leaves the run in no other case: a core that is not halted stays in it, in the same
mode, whenever it is in until-halt mode or its budget is positive; and inside an instruction, after a prefix
byte, a core stays in the run whatever halted and the budget are (no boundary there: assumption 6). -/
def Obligations.RunReturns : Prop :=
  ∀ s : State, inRun s →
    (s.midInstr = false →
      (s.halted = true → step s = .next { s with phase := .idle, budget := 0 }) ∧
      (s.halted = false → s.phase = .budgeted → s.budget ≤ 0 → step s = .next { s with phase := .idle }) ∧
      (s.halted = false → s.phase = .untilHalt ∨ 0 < s.budget → ∀ t, step s = .next t → t.phase = s.phase)) ∧
    (s.midInstr = true → ∀ t, step s = .next t → t.phase = s.phase)

/-- O12. When the next act of the host is run(n): a negative n (signed 32 bits) starts until-halt mode and adds
nothing, any other n starts budget mode and is added to the budget; then the interrupt check runs, once; then
the step ends. A budget outside the signed 32-bit range, before or after the check, is refused. A core whose
script is empty does as for run(-1). Four clauses are the model's choice and not R236's words: that xy_sel, disp
and pfx are set to their boundary values at run entry (assumption 7: R81 sets them at the start of a Step), that
the range is tested at run entry, before and after the check (assumption 11), that the acts come from a script
(assumption 5), and what an empty script means (assumption 4). -/
def Obligations.RunEntryOrder : Prop :=
  (∀ (s : State) (n : BitVec 32) (acts : List HostAct), s.phase = .idle → s.host = .run n :: acts →
    let e := { s with
      host := acts, xySel := .hl, disp := 0#8, pfx := .none
      phase := if n.toInt < 0 then .untilHalt else .budgeted
      budget := if n.toInt < 0 then s.budget else s.budget + n.toInt }
    (InRange e.budget → step s =
      match e.intCheck with
      | .next t => if -2147483648 ≤ t.budget ∧ t.budget ≤ 2147483647 then .next t else .refused .budgetRange
      | .fault q => .fault q
      | .refused q => .refused q) ∧
    (¬ InRange e.budget → step s = .refused .budgetRange)) ∧
  (∀ s : State, s.phase = .idle → s.host = [] → step s = step { s with host := [.run (BitVec.ofInt 32 (-1))] })

/-- O13. ADD A,s puts A + s, ADC A,s puts A + s + C (the carry before the instruction), modulo 2^8, in A, and both
set all eight flags as the addition of two bytes does (S, Z, 5, 3 from the result, H the carry from bit 3, PV
signed overflow, N = 0, C the carry from bit 7), for each of the five source forms (register, (HL), immediate,
(XY+d), half of XY): the form's bytes decode to it; a memory operand is read once; the halves raise
UnknownOpcode under UNDOC_OPCODES = unknown; every other field of the state is unchanged. -/
def Obligations.AddAndAdcSetSumAndFlags : Prop :=
  ∀ (src : Src) (s : State),
    (decode (src.bytes .add) = .ok (src.instr .add) ∧
      exec (src.instr .add) s = src.answer .add s (fun v => { s.regs with a := sum8 s.regs.a v false, f := addF s.regs.a v false })) ∧
    (decode (src.bytes .adc) = .ok (src.instr .adc) ∧
      exec (src.instr .adc) s = src.answer .adc s (fun v =>
        { s.regs with a := sum8 s.regs.a v (cy s.regs.f), f := addF s.regs.a v (cy s.regs.f) }))

/-- O14. SUB s puts A - s, SBC A,s puts A - s - C (the carry before the instruction), modulo 2^8, in A, and both set
all eight flags as the subtraction does (S, Z, 5, 3 from the result, H the borrow from bit 4, PV signed
overflow, N = 1, C the borrow), for each of the five source forms (register, (HL), immediate, (XY+d), half of
XY): the form's bytes decode to it; a memory operand is read once; the halves raise UnknownOpcode under
UNDOC_OPCODES = unknown; every other field of the state is unchanged. -/
def Obligations.SubAndSbcSetDifferenceAndFlags : Prop :=
  ∀ (src : Src) (s : State),
    (decode (src.bytes .sub) = .ok (src.instr .sub) ∧
      exec (src.instr .sub) s = src.answer .sub s (fun v => { s.regs with a := diff8 s.regs.a v false, f := subF s.regs.a v false })) ∧
    (decode (src.bytes .sbc) = .ok (src.instr .sbc) ∧
      exec (src.instr .sbc) s = src.answer .sbc s (fun v =>
        { s.regs with a := diff8 s.regs.a v (cy s.regs.f), f := subF s.regs.a v (cy s.regs.f) }))

/-- O15. CP s sets S, Z, H, PV, N and C as SUB s does and bits 5 and 3 from the operand, and writes no other
register, for each of the five source forms (register, (HL), immediate, (XY+d), half of XY): the form's bytes
decode to it; a memory operand is read once; the halves raise UnknownOpcode under UNDOC_OPCODES = unknown; every
other field of the state is unchanged. -/
def Obligations.CompareSetsFlagsOnly : Prop :=
  ∀ (src : Src) (s : State),
    decode (src.bytes .cp) = .ok (src.instr .cp) ∧
    exec (src.instr .cp) s = src.answer .cp s (fun v => { s.regs with f := subFrom s.regs.a v false v })

/-- O16. AND, XOR and OR s put the bitwise result in A, set S, Z, 5 and 3 from it and PV to its parity, clear N and
C, and set H for AND and clear it for XOR and OR, for each of the five source forms (register, (HL), immediate,
(XY+d), half of XY): the form's bytes decode to it; a memory operand is read once; the halves raise
UnknownOpcode under UNDOC_OPCODES = unknown; every other field of the state is unchanged. -/
def Obligations.LogicOperations : Prop :=
  ∀ (src : Src) (s : State),
    (decode (src.bytes .and) = .ok (src.instr .and) ∧
      exec (src.instr .and) s = src.answer .and s (fun v =>
        { s.regs with a := s.regs.a &&& v, f := resultF (s.regs.a &&& v) true false })) ∧
    (decode (src.bytes .xor) = .ok (src.instr .xor) ∧
      exec (src.instr .xor) s = src.answer .xor s (fun v =>
        { s.regs with a := s.regs.a ^^^ v, f := resultF (s.regs.a ^^^ v) false false })) ∧
    (decode (src.bytes .or) = .ok (src.instr .or) ∧
      exec (src.instr .or) s = src.answer .or s (fun v =>
        { s.regs with a := s.regs.a ||| v, f := resultF (s.regs.a ||| v) false false }))

/-- O17. NEG (ED 44) puts 0 - A modulo 2^8 in A and sets all eight flags as the subtraction 0 - A does, so C is A /=
0 and PV is A = 0x80 for the old A. The seven mirrors do the same where UNDOC_OPCODES = Z80 and raise
UnknownOpcode(ED, op) otherwise. Nothing else changes. -/
def Obligations.NegateAccumulator : Prop :=
  ∀ s : State,
    decode [0xED#8, 0x44#8] = .ok .neg ∧
    (∀ y : BitVec 3, y ≠ 0 → decode [0xED#8, BitVec.ofNat 8 (0x44 + 8 * y.toNat)] = .ok (.negMirror y)) ∧
    (let t := { s with regs := { s.regs with a := diff8 0#8 s.regs.a false, f := subF 0#8 s.regs.a false } }
     exec .neg s = .next t ∧
     ∀ y : BitVec 3, exec (.negMirror y) s =
       orUnknown (undoc s) s .ed (BitVec.ofNat 8 (0x44 + 8 * y.toNat)) t) ∧
    cy (subF 0#8 s.regs.a false) = decide (s.regs.a ≠ 0#8) ∧
    bitOf (subF 0#8 s.regs.a false) 2 = decide (s.regs.a = 0x80#8)

/-- O18. INC m adds and DEC m subtracts 1 modulo 2^8; S, Z, 5 and 3 come from the result; H is set when the low
digit was F (INC) or 0 (DEC), PV when the value was 7F (INC) or 80 (DEC), N is 0 for INC and 1 for DEC, and C is
unchanged, for each of the four targets (register, (HL), (XY+d), half of XY): the form's bytes decode to it, a
memory target is read once and written once at the same address and no other byte of memory changes, the halves
raise UnknownOpcode under UNDOC_OPCODES = unknown, and every other field is unchanged. The memory is assumed in
its canonical form, which every step keeps. That storing a byte changes what no other address reads rests on the
model's choice that each region has a buffer of its own (assumption 10, unsafe where one buffer is registered
twice). -/
def Obligations.IncrementAndDecrementByte : Prop :=
  ∀ (tgt : Tgt) (s : State), Memory.wf s.mem = true →
    (decode (tgt.bytes 4) = .ok tgt.inc ∧
      tgt.Gives 4 s (fun v => sum8 v 1#8 false)
        (fun v =>
          let r := sum8 v 1#8 false
          fByte (decide (128 ≤ r.toNat)) (decide (r.toNat = 0)) (bitOf r 5) (decide (v.toNat % 16 = 15)) (bitOf r 3)
            (decide (v = 0x7F#8)) false (cy s.regs.f))
        (exec tgt.inc s)) ∧
    (decode (tgt.bytes 5) = .ok tgt.dec ∧
      tgt.Gives 5 s (fun v => diff8 v 1#8 false)
        (fun v =>
          let r := diff8 v 1#8 false
          fByte (decide (128 ≤ r.toNat)) (decide (r.toNat = 0)) (bitOf r 5) (decide (v.toNat % 16 = 0)) (bitOf r 3)
            (decide (v = 0x80#8)) true (cy s.regs.f))
        (exec tgt.dec s))

/-- O19. DAA (27), for every A and F: the correction is 6 if H is set or the low digit exceeds 9, plus 60H if C is
set or A exceeds 99H (which also sets C); it is added to A when N = 0 and subtracted when N = 1; H is (low digit
> 9) when N = 0 and (H and low digit < 6) when N = 1; S, Z, 5, 3 and parity come from the result; N is
unchanged. Nothing else changes. -/
def Obligations.DecimalAdjust : Prop :=
  decode [0x27#8] = .ok .daa ∧
  ∀ s : State,
    let a : Nat := s.regs.a.toNat
    let h := bitOf s.regs.f 4
    let c := cy s.regs.f || decide (0x99 < a)
    let corr : Nat := (if h || decide (9 < a % 16) then 0x06 else 0) + (if c then 0x60 else 0)
    let r : Byte := if bitOf s.regs.f 1 then BitVec.ofInt 8 ((a : Int) - corr) else BitVec.ofNat 8 (a + corr)
    let h' := if bitOf s.regs.f 1 then h && decide (a % 16 < 6) else decide (9 < a % 16)
    exec .daa s = .next
      { s with regs := { s.regs with
          a := r
          f := fByte (decide (128 ≤ r.toNat)) (decide (r.toNat = 0)) (bitOf r 5) h' (bitOf r 3) (evenBits r)
            (bitOf s.regs.f 1) c } }

/-- O20. For two bytes whose digits are decimal and any carry: ADC then DAA leaves in A the decimal byte of (x + y +
carry) mod 100, and C set exactly when the sum is 100 or more; SBC then DAA leaves the decimal byte of (x - y -
carry) mod 100, and C set exactly when the difference is negative. -/
def Obligations.DecimalArithmetic : Prop :=
  ∀ (s : State) (x y : Byte), isBcd x = true → isBcd y = true →
    let t := { s with regs := { s.regs with a := x } }
    let c := (cy s.regs.f).toNat
    (∃ u, andThen (exec (.adcAN y) t) (exec .daa) = .next u ∧ isBcd u.regs.a = true ∧
      bcd u.regs.a = (bcd x + bcd y + c) % 100 ∧ cy u.regs.f = decide (100 ≤ bcd x + bcd y + c)) ∧
    (∃ u, andThen (exec (.sbcAN y) t) (exec .daa) = .next u ∧ isBcd u.regs.a = true ∧
      bcd u.regs.a = (bcd x + 200 - bcd y - c) % 100 ∧ cy u.regs.f = decide (bcd x < bcd y + c))

/-- O21. CPL (2F) complements A, sets H and N and takes bits 5 and 3 from the new A; SCF (37) sets C and clears H
and N; CCF (3F) complements C, puts the old C in H and clears N; SCF and CCF take bits 5 and 3 from A. The flags
not named and every other field are unchanged. -/
def Obligations.AccumulatorFlagOperations : Prop :=
  decode [0x2F#8] = .ok .cpl ∧ decode [0x37#8] = .ok .scf ∧ decode [0x3F#8] = .ok .ccf ∧
  ∀ s : State,
    (let a : Byte := BitVec.ofNat 8 (255 - s.regs.a.toNat)
     exec .cpl s = .next { s with regs := { s.regs with a := a, f := keptF s.regs.f a true true (cy s.regs.f) } }) ∧
    exec .scf s = .next { s with regs := { s.regs with f := keptF s.regs.f s.regs.a false false true } } ∧
    exec .ccf s = .next { s with regs := { s.regs with
      f := keptF s.regs.f s.regs.a (cy s.regs.f) false (!cy s.regs.f) } }

/-- O22. RLCA (07), RRCA (0F), RLA (17) and RRA (1F) rotate A left or right, circularly or through the old carry; C
is the bit moved out, H and N are 0, bits 5 and 3 come from the new A, S, Z and PV are unchanged, and nothing
else changes. -/
def Obligations.AccumulatorRotates : Prop :=
  decode [0x07#8] = .ok .rlca ∧ decode [0x0F#8] = .ok .rrca ∧ decode [0x17#8] = .ok .rla ∧ decode [0x1F#8] = .ok .rra ∧
  ∀ s : State,
    let after (sh : Shift) : State :=
      let r := sh.result (cy s.regs.f) s.regs.a
      { s with regs := { s.regs with a := r, f := keptF s.regs.f r false false (sh.out s.regs.a) } }
    exec .rlca s = .next (after .rlc) ∧ exec .rrca s = .next (after .rrc) ∧
    exec .rla s = .next (after .rl) ∧ exec .rra s = .next (after .rr)

/-- O23. Each CB shift replaces its operand by the shifted byte, with flags S, Z, 5, 3 and PV (parity) from the
result, H = N = 0 and C the bit moved out, for each of the four forms (register, (HL), (XY+d), (XY+d) with a
register copy): the form's bytes decode to it; a memory operand is read once and written once at the same
address and no other byte of memory changes; the register-copy form writes the result to memory and to the
register, and raises UnknownOpcode under UNDOC_OPCODES = unknown; every other field is unchanged. The memory is
assumed in its canonical form, which every step keeps. That storing a byte changes what no other address reads
rests on the model's choice that each region has a buffer of its own (assumption 10, unsafe where one buffer is
registered twice). -/
def Obligations.ShiftsAndRotates : Prop :=
  ∀ (sh : Shift) (tgt : CbTgt) (s : State), Memory.wf s.mem = true →
    decode (tgt.bytes sh.y) = .ok (sh.instr tgt) ∧
    tgt.Gives sh.y s (sh.result (cy s.regs.f))
      (fun v => resultF (sh.result (cy s.regs.f) v) false (sh.out v)) (exec (sh.instr tgt) s)

/-- O24. RES b,m clears bit b and SET b,m sets it, writing the byte back even when it did not change; F is
unchanged, for each of the four forms (register, (HL), (XY+d), (XY+d) with a register copy): the form's bytes
decode to it; a memory operand is read once and written once at the same address and no other byte of memory
changes; the register-copy form writes the result to memory and to the register, and raises UnknownOpcode under
UNDOC_OPCODES = unknown; every other field is unchanged. The memory is assumed in its canonical form, which
every step keeps. That storing a byte changes what no other address reads rests on the model's choice that each
region has a buffer of its own (assumption 10, unsafe where one buffer is registered twice). -/
def Obligations.ResetAndSetBit : Prop :=
  ∀ (b : BitVec 3) (tgt : CbTgt) (s : State), Memory.wf s.mem = true →
    (decode (tgt.bytes (16 + b.toNat)) = .ok (tgt.res b) ∧
      tgt.Gives (16 + b.toNat) s (clearBit b) (fun _ => s.regs.f) (exec (tgt.res b) s)) ∧
    (decode (tgt.bytes (24 + b.toNat)) = .ok (tgt.set b) ∧
      tgt.Gives (24 + b.toNat) s (raiseBit b) (fun _ => s.regs.f) (exec (tgt.set b) s))

/-- O25. BIT b sets Z and PV to the complement of the tested bit, H to 1, N to 0, S to (b = 7 and the bit is 1),
keeps C, and takes bits 5 and 3 from the register tested or, for a memory operand, from the high byte of the
effective address (H for (HL)). The operand is read once and no register or memory byte but F changes. The
(XY+d),r encodings do the same where recognized. -/
def Obligations.BitTest : Prop :=
  ∀ (b : BitVec 3) (tgt : CbTgt) (s : State),
    decode (tgt.bytes (8 + b.toNat)) = .ok (tgt.bit b) ∧
    exec (tgt.bit b) s =
      match tgt with
      | .reg r =>
        .next { s with regs := { s.regs with f := bitF s.regs.f (get s.regs r) (get s.regs r) b } }
      | .mHl =>
        .next { atHl s with
          regs := { s.regs with f := bitF s.regs.f (s.peek (hl s)) s.regs.h b }
          bus := .memRead (hl s) (s.peek (hl s)) :: s.bus }
      | .mXy x d =>
        .next { atXy s x d with
          regs := { s.regs with f := bitF s.regs.f (s.peek (ea s x d)) (high (ea s x d)) b }
          bus := .memRead (ea s x d) (s.peek (ea s x d)) :: s.bus }
      | .mXyR x d _ =>
        orUnknown (undoc s) s (xyCbTable x) (tgt.opcode (8 + b.toNat))
          { atXy s x d with
            regs := { s.regs with f := bitF s.regs.f (s.peek (ea s x d)) (high (ea s x d)) b }
            bus := .memRead (ea s x d) (s.peek (ea s x d)) :: s.bus }

/-- O26. RLD (ED 6F) and RRD (ED 67) move the low digit of A and the two digits of the byte at HL in a circle, left
or right; the high digit of A stays; S, Z, 5, 3 and parity come from the new A, H = N = 0 and C is unchanged. HL
is read once and written once; no other byte of memory and no other field changes. The memory is assumed in its
canonical form, which every step keeps. That storing a byte changes what no other address reads rests on the
model's choice that each region has a buffer of its own (assumption 10, unsafe where one buffer is registered
twice). -/
def Obligations.DigitRotates : Prop :=
  decode [0xED#8, 0x6F#8] = .ok .rld ∧ decode [0xED#8, 0x67#8] = .ok .rrd ∧
  ∀ s : State, Memory.wf s.mem = true →
    let m := s.peek (hl s)
    let after (a' m' : Byte) (ans : Answer) : Prop :=
      ∃ cells, Stored s cells (hl s) m' ∧
        ans = .next
          { s with
            mem := cells
            regs := { s.regs with a := a', f := resultF a' false (cy s.regs.f) }
            bus := .memWrite (hl s) m' :: .memRead (hl s) m :: s.bus }
    after (BitVec.ofNat 8 (s.regs.a.toNat / 16 * 16 + m.toNat / 16))
      (BitVec.ofNat 8 (m.toNat % 16 * 16 + s.regs.a.toNat % 16)) (exec .rld s) ∧
    after (BitVec.ofNat 8 (s.regs.a.toNat / 16 * 16 + m.toNat % 16))
      (BitVec.ofNat 8 (s.regs.a.toNat % 16 * 16 + m.toNat / 16)) (exec .rrd s)

/-- O27. ADD HL,rr and ADD IX/IY,rr put the sum modulo 2^16 in the destination; H is the carry from bit 11, C the
carry from bit 15, N is 0, bits 5 and 3 come from the high byte of the result, S, Z and PV are unchanged, and
nothing else changes. The source with code 2 is the destination register itself. -/
def Obligations.Add16KeepsSignZeroParity : Prop :=
  ∀ s : State,
    (∀ p : Pair, decode [BitVec.ofNat 8 (0x09 + 16 * pairNo p)] = .ok (.addHlRp p) ∧
      (let r := sum16 (hl s) (pair s p) false
       exec (.addHlRp p) s = .next { s with regs := { putHl s.regs r with
        f := keptF s.regs.f (high r) (half16 (hl s) (pair s p) false) false (carry16 (hl s) (pair s p) false) } })) ∧
    (∀ (x : Idx) (p : XyPair), decode [prefixByte x, BitVec.ofNat 8 (0x09 + 16 * xyPairNo p)] = .ok (.addXyRp x p) ∧
      (let r := sum16 (xy s x) (xyPair s x p) false
       exec (.addXyRp x p) s = .next { putXy s x r with regs := { s.regs with
        f := keptF s.regs.f (high r) (half16 (xy s x) (xyPair s x p) false) false
          (carry16 (xy s x) (xyPair s x p) false) } }))

/-- O28. ADC HL,rr puts HL + rr + C and SBC HL,rr puts HL - rr - C, modulo 2^16, in HL; S is bit 15, Z is (result =
0), 5 and 3 are bits 13 and 11, H the carry from bit 11 (the borrow from bit 12), PV signed 16-bit overflow, N
is 0 for ADC and 1 for SBC, C the carry from (borrow into) bit 15; nothing else changes. -/
def Obligations.AdcAndSbc16SetAllFlags : Prop :=
  ∀ (p : Pair) (s : State),
    decode [0xED#8, BitVec.ofNat 8 (0x4A + 16 * pairNo p)] = .ok (.adcHlRp p) ∧
    decode [0xED#8, BitVec.ofNat 8 (0x42 + 16 * pairNo p)] = .ok (.sbcHlRp p) ∧
    exec (.adcHlRp p) s = .next { s with regs := { putHl s.regs (sum16 (hl s) (pair s p) (cy s.regs.f)) with
      f := adcF (hl s) (pair s p) (cy s.regs.f) } } ∧
    exec (.sbcHlRp p) s = .next { s with regs := { putHl s.regs (diff16 (hl s) (pair s p) (cy s.regs.f)) with
      f := sbcF (hl s) (pair s p) (cy s.regs.f) } }

/-- O29. INC and DEC of BC, DE, HL, SP, IX and IY add or subtract 1 modulo 2^16; no flag and nothing else changes. -/
def Obligations.IncrementDecrementPair : Prop :=
  ∀ s : State,
    (∀ p : Pair, decode [BitVec.ofNat 8 (0x03 + 16 * pairNo p)] = .ok (.incRp p) ∧
      decode [BitVec.ofNat 8 (0x0B + 16 * pairNo p)] = .ok (.decRp p) ∧
      exec (.incRp p) s = .next (putPair s p (BitVec.ofNat 16 ((pair s p).toNat + 1))) ∧
      exec (.decRp p) s = .next (putPair s p (BitVec.ofNat 16 ((pair s p).toNat + 65535)))) ∧
    (∀ x : Idx, decode [prefixByte x, 0x23#8] = .ok (.incXy x) ∧ decode [prefixByte x, 0x2B#8] = .ok (.decXy x) ∧
      exec (.incXy x) s = .next (putXy s x (BitVec.ofNat 16 ((xy s x).toNat + 1))) ∧
      exec (.decXy x) s = .next (putXy s x (BitVec.ofNat 16 ((xy s x).toNat + 65535))))

/-- O30. LD r,r' and LD r,n write the source register or the immediate to the destination register. Under DD or FD
the half forms read and write XYH and XYL of the same index register, keeping its other half, and raise
UnknownOpcode under UNDOC_OPCODES = unknown. No flag and nothing else changes. -/
def Obligations.RegisterLoads : Prop :=
  ∀ s : State,
    (∀ r q : Reg8, decode [BitVec.ofNat 8 (0x40 + 8 * code r + code q)] = .ok (.ldRR r q) ∧
      exec (.ldRR r q) s = .next { s with regs := put s.regs r (get s.regs q) }) ∧
    (∀ (r : Reg8) (n : Byte), decode [BitVec.ofNat 8 (0x06 + 8 * code r), n] = .ok (.ldRN r n) ∧
      exec (.ldRN r n) s = .next { s with regs := put s.regs r n }) ∧
    (∀ (x : Idx) (h : Half) (n : Byte),
      decode [prefixByte x, BitVec.ofNat 8 (0x26 + 8 * halfNo h), n] = .ok (.ldXyHalfN x h n) ∧
      exec (.ldXyHalfN x h n) s =
        orUnknown (undoc s) s (xyTable x) (BitVec.ofNat 8 (0x26 + 8 * halfNo h)) (putHalf s x h n)) ∧
    (∀ (x : Idx) (r : Reg8) (h : Half),
      (r ≠ .h → r ≠ .l →
        decode [prefixByte x, BitVec.ofNat 8 (0x44 + 8 * code r + halfNo h)] = .ok (.ldRXyHalf x r h)) ∧
      exec (.ldRXyHalf x r h) s =
        orUnknown (undoc s) s (xyTable x) (BitVec.ofNat 8 (0x44 + 8 * code r + halfNo h))
          { s with regs := put s.regs r (xyHalf s x h) }) ∧
    (∀ (x : Idx) (h : Half) (q : HalfSrc),
      let op : Byte := BitVec.ofNat 8 (0x60 + 8 * halfNo h + match q with
        | .b => 0 | .c => 1 | .d => 2 | .e => 3 | .xyh => 4 | .xyl => 5 | .a => 7)
      decode [prefixByte x, op] = .ok (.ldXyHalfS x h q) ∧
      exec (.ldXyHalfS x h q) s =
        orUnknown (undoc s) s (xyTable x) op
          (putHalf s x h (match q with
            | .b => s.regs.b | .c => s.regs.c | .d => s.regs.d | .e => s.regs.e
            | .xyh => xyHalf s x .hi | .xyl => xyHalf s x .lo | .a => s.regs.a)))

/-- O31. LD r,M loads the true register r from the byte at HL or at XY + d; LD A,(BC), LD A,(DE) and LD A,(nn) load
A from that address. One byte is read; no flag, no byte of memory and no other register changes. -/
def Obligations.LoadsFromMemory : Prop :=
  ∀ s : State,
    (∀ r : Reg8, decode [BitVec.ofNat 8 (0x46 + 8 * code r)] = .ok (.ldRMHl r) ∧
      exec (.ldRMHl r) s = .next { atHl s with
        regs := put s.regs r (s.peek (hl s)), bus := .memRead (hl s) (s.peek (hl s)) :: s.bus }) ∧
    (∀ (x : Idx) (r : Reg8) (d : Byte),
      decode [prefixByte x, BitVec.ofNat 8 (0x46 + 8 * code r), d] = .ok (.ldRMXy x r d) ∧
      exec (.ldRMXy x r d) s = .next { atXy s x d with
        regs := put s.regs r (s.peek (ea s x d)), bus := .memRead (ea s x d) (s.peek (ea s x d)) :: s.bus }) ∧
    (let loads (a : Word) : State :=
        { s with regs := { s.regs with a := s.peek a }, bus := .memRead a (s.peek a) :: s.bus }
     decode [0x0A#8] = .ok .ldAMBc ∧ exec .ldAMBc s = .next (loads (bc s)) ∧
     decode [0x1A#8] = .ok .ldAMDe ∧ exec .ldAMDe s = .next (loads (de s)) ∧
     ∀ lo hi : Byte, decode [0x3A#8, lo, hi] = .ok (.ldAMNn (wordOf hi lo)) ∧
       ∀ nn : Word, exec (.ldAMNn nn) s = .next (loads nn))

/-- O32. The 8-bit stores write their source (the true register, the immediate or A) at HL, XY + d, BC, DE or nn. No
other byte of memory, no register and no flag changes; a write to an address that is not in a read-write region
is dropped. The memory is assumed in its canonical form, which every step keeps. That storing a byte changes
what no other address reads rests on the model's choice that each region has a buffer of its own (assumption 10,
unsafe where one buffer is registered twice). -/
def Obligations.StoresToMemory : Prop :=
  ∀ s : State, Memory.wf s.mem = true →
    let writes (t : State) (a : Word) (v : Byte) (ans : Answer) : Prop :=
      ∃ m, Stored s m a v ∧ ans = .next { t with mem := m, bus := .memWrite a v :: s.bus }
    (∀ r : Reg8, decode [BitVec.ofNat 8 (0x70 + code r)] = .ok (.ldMHlR r) ∧
      writes (atHl s) (hl s) (get s.regs r) (exec (.ldMHlR r) s)) ∧
    (∀ (x : Idx) (d : Byte) (r : Reg8),
      decode [prefixByte x, BitVec.ofNat 8 (0x70 + code r), d] = .ok (.ldMXyR x d r) ∧
      writes (atXy s x d) (ea s x d) (get s.regs r) (exec (.ldMXyR x d r) s)) ∧
    (∀ n : Byte, decode [0x36#8, n] = .ok (.ldMHlN n) ∧ writes (atHl s) (hl s) n (exec (.ldMHlN n) s)) ∧
    (∀ (x : Idx) (d n : Byte), decode [prefixByte x, 0x36#8, d, n] = .ok (.ldMXyN x d n) ∧
      writes (atXy s x d) (ea s x d) n (exec (.ldMXyN x d n) s)) ∧
    decode [0x02#8] = .ok .ldMBcA ∧ writes s (bc s) s.regs.a (exec .ldMBcA s) ∧
    decode [0x12#8] = .ok .ldMDeA ∧ writes s (de s) s.regs.a (exec .ldMDeA s) ∧
    (∀ lo hi : Byte, decode [0x32#8, lo, hi] = .ok (.ldMNnA (wordOf hi lo))) ∧
    (∀ nn : Word, writes s nn s.regs.a (exec (.ldMNnA nn) s))

/-- O33. LD I,A and LD R,A copy A whole and change nothing else. LD A,I and LD A,R copy the register to A, set S, Z,
5 and 3 from the value, PV to IFF1, clear H and N and keep C. Under R_MODEL = draw LD A,R takes bits 6:0 from a
fresh draw: the environment's next byte, or any byte (how draws are supplied is the model's choice, assumption
8). -/
def Obligations.InterruptAndRefreshLoads : Prop :=
  decode [0xED#8, 0x47#8] = .ok .ldIA ∧ decode [0xED#8, 0x4F#8] = .ok .ldRA ∧
  decode [0xED#8, 0x57#8] = .ok .ldAI ∧ decode [0xED#8, 0x5F#8] = .ok .ldAR ∧
  ∀ s : State,
    let loads (v : Byte) (t : State) : State :=
      { t with regs := { s.regs with
        a := v
        f := fByte (decide (128 ≤ v.toNat)) (decide (v.toNat = 0)) (bitOf v 5) false (bitOf v 3) s.iff1 false
          (cy s.regs.f) } }
    exec .ldIA s = .next { s with i := s.regs.a } ∧ exec .ldRA s = .next { s with r := s.regs.a } ∧
    exec .ldAI s = .next (loads s.i s) ∧
    (s.params.rModel = .m1 → exec .ldAR s = .next (loads s.r s)) ∧
    (s.params.rModel = .draw → exec .ldAR s = .next
      (loads (BitVec.ofNat 8 (s.r.toNat / 128 * 128 + (drew s).1.toNat % 128)) (drew s).2))

/-- O34. LD rp,nn and LD XY,nn load the immediate; LD XY,(nn) and LD rp,(nn) load the word at nn, low byte at nn and
high byte at nn + 1 modulo 2^16, by two reads; LD SP,XY copies HL, IX or IY. No flag, no byte of memory and no
other register changes. That LD XY,(nn) reads nn before nn + 1 is R164's, that LD rp,(nn) does so is the model's
choice (assumption 30). -/
def Obligations.PairLoads : Prop :=
  ∀ s : State,
    (∀ (p : Pair) (lo hi : Byte),
      decode [BitVec.ofNat 8 (0x01 + 16 * pairNo p), lo, hi] = .ok (.ldRpNn p (wordOf hi lo)) ∧
      decode [0xED#8, BitVec.ofNat 8 (0x4B + 16 * pairNo p), lo, hi] = .ok (.ldRpMNn p (wordOf hi lo))) ∧
    (∀ (x : Idx) (lo hi : Byte), decode [prefixByte x, 0x21#8, lo, hi] = .ok (.ldXyNn x (wordOf hi lo)) ∧
      decode [prefixByte x, 0x2A#8, lo, hi] = .ok (.ldXyMNn x (wordOf hi lo))) ∧
    (∀ lo hi : Byte, decode [0x2A#8, lo, hi] = .ok (.ldHlMNn (wordOf hi lo))) ∧
    decode [0xF9#8] = .ok .ldSpHl ∧ (∀ x : Idx, decode [prefixByte x, 0xF9#8] = .ok (.ldSpXy x)) ∧
    (∀ nn : Word,
      (∀ p : Pair, exec (.ldRpNn p nn) s = .next (putPair s p nn) ∧
        exec (.ldRpMNn p nn) s = .next { putPair s p (word s nn) with bus := readWord s nn }) ∧
      (∀ x : Idx, exec (.ldXyNn x nn) s = .next (putXy s x nn) ∧
        exec (.ldXyMNn x nn) s = .next { putXy s x (word s nn) with bus := readWord s nn }) ∧
      exec (.ldHlMNn nn) s = .next { s with regs := putHl s.regs (word s nn), bus := readWord s nn }) ∧
    exec .ldSpHl s = .next { s with sp := hl s } ∧ (∀ x : Idx, exec (.ldSpXy x) s = .next { s with sp := xy s x })

/-- O35. LD (nn),XY and LD (nn),rp store HL, IX, IY or the pair at nn and nn + 1; PUSH decrements SP by 2 and stores
the pair or index register at the new SP and SP + 1, all addresses modulo 2^16, low byte first. No other byte of
memory, no flag and no other register changes. The memory is assumed in its canonical form, which every step
keeps. That storing a byte changes what no other address reads rests on the model's choice that each region has
a buffer of its own (assumption 10, unsafe where one buffer is registered twice). -/
def Obligations.PairStores : Prop :=
  ∀ s : State, Memory.wf s.mem = true →
    let writes (a v : Word) (ans : Answer) : Prop :=
      ∃ m, StoredWord s m a v ∧ ans = .next { s with mem := m, bus := wroteWord s.bus a v }
    let pushes (v : Word) (ans : Answer) : Prop := ∃ t, Pushed s t v ∧ ans = .next t
    (∀ lo hi : Byte, decode [0x22#8, lo, hi] = .ok (.ldMNnHl (wordOf hi lo)) ∧
      (∀ x : Idx, decode [prefixByte x, 0x22#8, lo, hi] = .ok (.ldMNnXy x (wordOf hi lo))) ∧
      ∀ p : Pair, decode [0xED#8, BitVec.ofNat 8 (0x43 + 16 * pairNo p), lo, hi] = .ok (.ldMNnRp p (wordOf hi lo))) ∧
    (∀ nn : Word, writes nn (hl s) (exec (.ldMNnHl nn) s) ∧
      (∀ x : Idx, writes nn (xy s x) (exec (.ldMNnXy x nn) s)) ∧
      ∀ p : Pair, writes nn (pair s p) (exec (.ldMNnRp p nn) s)) ∧
    (∀ p : StackPair, decode [BitVec.ofNat 8 (0xC5 + 16 * stackPairNo p)] = .ok (.pushQq p) ∧
      pushes (stackPair s p) (exec (.pushQq p) s)) ∧
    (∀ x : Idx, decode [prefixByte x, 0xE5#8] = .ok (.pushXy x) ∧ pushes (xy s x) (exec (.pushXy x) s))

/-- O36. POP reads the word at SP, its low byte at SP, adds 2 to SP modulo 2^16 and writes the word to BC, DE, HL,
AF (all eight bits of F), IX or IY. No byte of memory and nothing else changes. That the byte at SP is read
before the byte at SP + 1 is the model's choice (assumption 30). -/
def Obligations.PopLoadsPair : Prop :=
  ∀ s : State,
    (∀ p : StackPair, decode [BitVec.ofNat 8 (0xC1 + 16 * stackPairNo p)] = .ok (.popQq p) ∧
      exec (.popQq p) s = .next (putStackPair (popped s) p (word s s.sp))) ∧
    (∀ x : Idx, decode [prefixByte x, 0xE1#8] = .ok (.popXy x) ∧
      exec (.popXy x) s = .next (putXy (popped s) x (word s s.sp)))

/-- O37. EX DE,HL swaps DE and the true HL; EX AF,AF' swaps A and F with the shadows; EXX swaps BC, DE and HL with
the shadows; EX (SP),XY swaps HL, IX or IY with the word at SP, reading both bytes and then writing both, the
low byte written first, with SP unchanged. No other byte of memory and nothing else changes. The memory is
assumed in its canonical form, which every step keeps. That storing a byte changes what no other address reads
rests on the model's choice that each region has a buffer of its own (assumption 10, unsafe where one buffer is
registered twice). That the byte at SP is read before the byte at SP + 1 is the model's choice (assumption 30). -/
def Obligations.Exchanges : Prop :=
  decode [0xEB#8] = .ok .exDeHl ∧ decode [0x08#8] = .ok .exAfAf ∧ decode [0xD9#8] = .ok .exx ∧
  decode [0xE3#8] = .ok .exMSpHl ∧ (∀ x : Idx, decode [prefixByte x, 0xE3#8] = .ok (.exMSpXy x)) ∧
  ∀ s : State,
    exec .exDeHl s = .next { s with regs := { s.regs with
      d := s.regs.h, e := s.regs.l, h := s.regs.d, l := s.regs.e } } ∧
    exec .exAfAf s = .next { s with
      regs := { s.regs with a := s.shadow.a, f := s.shadow.f }
      shadow := { s.shadow with a := s.regs.a, f := s.regs.f } } ∧
    exec .exx s = .next { s with
      regs := { a := s.regs.a, f := s.regs.f, b := s.shadow.b, c := s.shadow.c, d := s.shadow.d, e := s.shadow.e,
                h := s.shadow.h, l := s.shadow.l }
      shadow := { a := s.shadow.a, f := s.shadow.f, b := s.regs.b, c := s.regs.c, d := s.regs.d, e := s.regs.e,
                  h := s.regs.h, l := s.regs.l } } ∧
    (Memory.wf s.mem = true →
      (∃ m, StoredWord s m s.sp (hl s) ∧ exec .exMSpHl s = .next { s with
        regs := putHl s.regs (word s s.sp), mem := m, bus := wroteWord (readWord s s.sp) s.sp (hl s) }) ∧
      ∀ x : Idx, ∃ m, StoredWord s m s.sp (xy s x) ∧ exec (.exMSpXy x) s = .next { putXy s x (word s s.sp) with
        mem := m, bus := wroteWord (readWord s s.sp) s.sp (xy s x) })

/-- O38. Each copies the byte at HL to DE, steps HL and DE by +1 or -1 and BC by -1 modulo 2^16, sets bits 5 and 3
from bits 1 and 3 of A + the byte, H = N = 0 and PV = (BC /= 0), and keeps S, Z and C. Only the byte at DE
changes in memory. For the repeating form PC goes back by 2 and 5 more cycles are charged while the step is to
run again. Nothing else changes. That the extra is the entry of CYCLE_COST where the parameter has one for the
instruction (R9, assumption 21) and that it is charged in the instruction's own effect (assumption 11: R235
charges the cost once, at the end) is the model's reading. The memory is assumed in its canonical form, which
every step keeps. That storing a byte changes what no other address reads rests on the model's choice that each
region has a buffer of its own (assumption 10, unsafe where one buffer is registered twice). -/
def Obligations.BlockTransfer : Prop :=
  ∀ rep up : Bool,
    decode [0xED#8, blockOpcode rep up 0] = .ok (ldBlock rep up) ∧
    ∀ s : State, Memory.wf s.mem = true →
      let v := s.peek (hl s)
      let count := bc s - 1
      ∃ m, Stored s m (de s) v ∧
        exec (ldBlock rep up) s = .next (repeats (rep && decide (count ≠ 0)) s (ldBlock rep up)
          { s with
            mem := m
            regs := putBc (putDe (putHl { s.regs with f := ldBlockF s.regs.f s.regs.a v count }
              (moved up (hl s))) (moved up (de s))) count
            bus := .memWrite (de s) v :: .memRead (hl s) v :: s.bus })

/-- O39. Each reads the byte at HL, steps HL by +1 or -1 and BC by -1 modulo 2^16, sets S, Z and H from A - the
byte, bits 5 and 3 from bits 1 and 3 of A - byte - H, PV = (BC /= 0), N = 1 and keeps C. A and memory are
unchanged. The step is to run again while BC /= 0 and no match. For the repeating form PC goes back by 2 and 5
more cycles are charged while the step is to run again. Nothing else changes. That the extra is the entry of
CYCLE_COST where the parameter has one for the instruction (R9, assumption 21) and that it is charged in the
instruction's own effect (assumption 11: R235 charges the cost once, at the end) is the model's reading. -/
def Obligations.BlockCompare : Prop :=
  ∀ rep up : Bool,
    decode [0xED#8, blockOpcode rep up 1] = .ok (cpBlock rep up) ∧
    ∀ s : State,
      let v := s.peek (hl s)
      let count := bc s - 1
      exec (cpBlock rep up) s = .next (repeats (rep && decide (count ≠ 0) && decide (s.regs.a ≠ v)) s (cpBlock rep up)
        { s with
          regs := putBc (putHl { s.regs with f := cpBlockF s.regs.f s.regs.a v count } (moved up (hl s))) count
          bus := .memRead (hl s) v :: s.bus })

/-- O40. Each reads port BC (B before the decrement), stores the byte at HL, steps HL by +1 or -1, decrements B and
sets every flag by R187 with k = v + ((C +- 1) mod 256); where BLOCK_IO = unknown it raises UnknownOpcode. C is
unchanged. The repeating form runs again while B /= 0. For the repeating form PC goes back by 2 and 5 more
cycles are charged while the step is to run again. Nothing else changes. That the extra is the entry of
CYCLE_COST where the parameter has one for the instruction (R9, assumption 21) and that it is charged in the
instruction's own effect (assumption 11: R235 charges the cost once, at the end) is the model's reading. The
memory is assumed in its canonical form, which every step keeps. That storing a byte changes what no other
address reads rests on the model's choice that each region has a buffer of its own (assumption 10, unsafe where
one buffer is registered twice). -/
def Obligations.BlockInput : Prop :=
  ∀ rep up : Bool,
    decode [0xED#8, blockOpcode rep up 2] = .ok (inBlock rep up) ∧
    ∀ s : State, Memory.wf s.mem = true →
      let v := (input s (bc s)).1
      let t := (input s (bc s)).2
      let b := s.regs.b - 1
      let k := v.toNat + (s.regs.c.toNat + (if up then 1 else 255)) % 256
      ∃ m, Stored s m (hl s) v ∧
        exec (inBlock rep up) s = orUnknown (s.params.blockIo == .z80) s .ed (blockOpcode rep up 2)
          (repeats (rep && decide (b ≠ 0)) s (inBlock rep up)
            { t with
              mem := m
              regs := putHl { s.regs with b := b, f := ioBlockF v k b } (moved up (hl s))
              bus := .memWrite (hl s) v :: t.bus })

/-- O41. Each decrements B, reads the byte at HL, writes it to port BC (B after the decrement), steps HL by +1 or -1
and sets every flag by R187 with k = v + L after the step; where BLOCK_IO = unknown it raises UnknownOpcode. C
and memory are unchanged. The repeating form runs again while B /= 0. For the repeating form PC goes back by 2
and 5 more cycles are charged while the step is to run again. Nothing else changes. That the extra is the entry
of CYCLE_COST where the parameter has one for the instruction (R9, assumption 21) and that it is charged in the
instruction's own effect (assumption 11: R235 charges the cost once, at the end) is the model's reading. -/
def Obligations.BlockOutput : Prop :=
  ∀ rep up : Bool,
    decode [0xED#8, blockOpcode rep up 3] = .ok (outBlock rep up) ∧
    ∀ s : State,
      let v := s.peek (hl s)
      let b := s.regs.b - 1
      let port := wordOf b s.regs.c
      let k := v.toNat + (low (moved up (hl s))).toNat
      exec (outBlock rep up) s = orUnknown (s.params.blockIo == .z80) s .ed (blockOpcode rep up 3)
        (repeats (rep && decide (b ≠ 0)) s (outBlock rep up)
          { s with
            regs := putHl { s.regs with b := b, f := ioBlockF v k b } (moved up (hl s))
            bus := .ioWrite port v (writer s port) :: .memRead (hl s) v :: s.bus })

/-- O42. In a run (until-halt mode, or budget mode with a budget above the 21 (N - 1) cycles of all iterations but
the last), at a boundary, with ED B0 at PC, BC = N (1 to 32768: two disjoint blocks leave room for no more), a
writable destination block that covers neither the source block nor the two instruction bytes, and the default
costs: after N steps the run is still in progress, PC is past the LDIR, BC = 0, HL and DE are N further, PV, H
and N are clear, the destination bytes are the source bytes, every other byte of memory is unchanged, and the
cost is 21 (N - 1) + 16. That no two regions share a buffer is the model's choice (assumption 10). -/
def Obligations.LdirCopiesBlock : Prop :=
  ∀ (s : State) (n : Nat), 1 ≤ n → n ≤ 32768 → Memory.wf s.mem = true →
    ((s.phase = .untilHalt ∧ -2000000000 ≤ s.budget) ∨ (s.phase = .budgeted ∧ ((21 * (n - 1) : Nat) : Int) < s.budget)) →
    s.budget ≤ 2147483647 → s.boundary = true → s.halted = false → s.params.cycleCost = [] →
    s.peek s.pc = 0xED#8 → s.peek (s.pc + 1) = 0xB0#8 → bc s = BitVec.ofNat 16 n →
    (∀ k, k < n → writable s (de s + BitVec.ofNat 16 k) = true) →
    (∀ k, k < n → de s + BitVec.ofNat 16 k ≠ s.pc ∧ de s + BitVec.ofNat 16 k ≠ s.pc + 1) →
    (∀ j k, j < n → k < n → hl s + BitVec.ofNat 16 j ≠ de s + BitVec.ofNat 16 k) →
    ∃ t, core.run n s = .next t ∧ t.phase = s.phase ∧ t.pc = s.pc + 2 ∧ bc t = 0 ∧
      hl t = hl s + BitVec.ofNat 16 n ∧ de t = de s + BitVec.ofNat 16 n ∧
      bitOf t.regs.f 2 = false ∧ bitOf t.regs.f 4 = false ∧ bitOf t.regs.f 1 = false ∧
      t.budget = s.budget - (21 * (n - 1) + 16 : Nat) ∧
      (∀ k, k < n → t.peek (de s + BitVec.ofNat 16 k) = s.peek (hl s + BitVec.ofNat 16 k)) ∧
      (∀ a : Word, (∀ k, k < n → a ≠ de s + BitVec.ofNat 16 k) → t.peek a = s.peek a)

/-- O43. JP nn, JP (HL), JP (IX), JP (IY) and JR e always jump; JP cc and JR cc jump when the condition of F holds;
DJNZ decrements B and jumps when it is not 0. A relative target is PC after the instruction plus the signed
offset, modulo 2^16. A taken JR cc or DJNZ charges its extra 5, a taken JP cc its extra 0. No flag and nothing
else changes. That the extra is the entry of CYCLE_COST where the parameter has one for the instruction (R9,
assumption 21) and that it is charged in the instruction's own effect (assumption 11: R235 charges the cost
once, at the end) is the model's reading. R198 itself says that both outcomes of JP cc cost 10, as the default
table has it. -/
def Obligations.Jumps : Prop :=
  ∀ s : State,
    (∀ lo hi : Byte, decode [0xC3#8, lo, hi] = .ok (.jpNn (wordOf hi lo)) ∧
      ∀ cc : Cond, decode [BitVec.ofNat 8 (0xC2 + 8 * condNo cc), lo, hi] = .ok (.jpCcNn cc (wordOf hi lo))) ∧
    (∀ nn : Word, exec (.jpNn nn) s = .next { s with pc := nn } ∧
      ∀ cc : Cond, exec (.jpCcNn cc nn) s = .next
        (if condTrue s.regs.f cc then { s with pc := nn, budget := extra s (.jpCcNn cc nn) 0 } else s)) ∧
    decode [0xE9#8] = .ok .jpHl ∧ exec .jpHl s = .next { s with pc := hl s } ∧
    (∀ x : Idx, decode [prefixByte x, 0xE9#8] = .ok (.jpXy x) ∧ exec (.jpXy x) s = .next { s with pc := xy s x }) ∧
    (∀ e : Byte, decode [0x18#8, e] = .ok (.jr e) ∧ exec (.jr e) s = .next { s with pc := relative s e } ∧
      (∀ cc : JrCond, decode [BitVec.ofNat 8 (0x20 + 8 * condNo (jrCond cc)), e] = .ok (.jrCc cc e) ∧
        exec (.jrCc cc e) s = .next
          (if condTrue s.regs.f (jrCond cc) then { s with pc := relative s e, budget := extra s (.jrCc cc e) 5 } else s)) ∧
      decode [0x10#8, e] = .ok (.djnz e) ∧
      exec (.djnz e) s = .next
        (let t := { s with regs := { s.regs with b := BitVec.ofNat 8 (s.regs.b.toNat + 255) } }
         if s.regs.b = 1#8 then t else { t with pc := relative s e, budget := extra s (.djnz e) 5 }))

/-- O44. CALL nn, a taken CALL cc,nn and RST push the address after the instruction (SP down by 2, low byte at the
new SP) and set PC to nn or to 8 t; a CALL cc not taken changes nothing; a taken one charges its extra 7. No
other byte of memory, no flag and nothing else changes. The memory is assumed in its canonical form, which every
step keeps. That storing a byte changes what no other address reads rests on the model's choice that each region
has a buffer of its own (assumption 10, unsafe where one buffer is registered twice). That the extra is the
entry of CYCLE_COST where the parameter has one for the instruction (R9, assumption 21) and that it is charged
in the instruction's own effect (assumption 11: R235 charges the cost once, at the end) is the model's reading. -/
def Obligations.CallsAndRestarts : Prop :=
  ∀ s : State, Memory.wf s.mem = true →
    let calls (target : Word) (budget : Int) (ans : Answer) : Prop :=
      ∃ t, Pushed s t s.pc ∧ ans = .next { t with pc := target, budget := budget }
    (∀ lo hi : Byte, decode [0xCD#8, lo, hi] = .ok (.callNn (wordOf hi lo)) ∧
      ∀ cc : Cond, decode [BitVec.ofNat 8 (0xC4 + 8 * condNo cc), lo, hi] = .ok (.callCcNn cc (wordOf hi lo))) ∧
    (∀ nn : Word, calls nn s.budget (exec (.callNn nn) s) ∧
      ∀ cc : Cond, if condTrue s.regs.f cc then calls nn (extra s (.callCcNn cc nn) 7) (exec (.callCcNn cc nn) s)
        else exec (.callCcNn cc nn) s = .next s) ∧
    (∀ t : BitVec 3, decode [BitVec.ofNat 8 (0xC7 + 8 * t.toNat)] = .ok (.rst t) ∧
      calls (BitVec.ofNat 16 (8 * t.toNat)) s.budget (exec (.rst t) s))

/-- O45. RET, a taken RET cc, RETN and RETI set PC to the word at SP and add 2 to SP; RETN, RETI and the RETN
mirrors (where recognized, else UnknownOpcode) also copy IFF1 into IFF0; a RET cc not taken changes nothing and
reads no memory; a taken one charges its extra 6. No byte of memory, no flag and nothing else changes. That the
byte at SP is read before the byte at SP + 1 is the model's choice (assumption 30). That the extra is the entry
of CYCLE_COST where the parameter has one for the instruction (R9, assumption 21) and that it is charged in the
instruction's own effect (assumption 11: R235 charges the cost once, at the end) is the model's reading. -/
def Obligations.Returns : Prop :=
  ∀ s : State,
    let ret := { popped s with pc := word s s.sp }
    let retInt := { ret with iff0 := s.iff1 }
    decode [0xC9#8] = .ok .ret ∧ exec .ret s = .next ret ∧
    (∀ cc : Cond, decode [BitVec.ofNat 8 (0xC0 + 8 * condNo cc)] = .ok (.retCc cc) ∧
      exec (.retCc cc) s = .next (if condTrue s.regs.f cc then { ret with budget := extra s (.retCc cc) 6 } else s)) ∧
    decode [0xED#8, 0x45#8] = .ok .retn ∧ exec .retn s = .next retInt ∧
    decode [0xED#8, 0x4D#8] = .ok .reti ∧ exec .reti s = .next retInt ∧
    (∀ y : BitVec 3, (y ≠ 0 → y ≠ 1 → decode [0xED#8, BitVec.ofNat 8 (0x45 + 8 * y.toNat)] = .ok (.retnMirror y)) ∧
      exec (.retnMirror y) s = orUnknown (undoc s) s .ed (BitVec.ofNat 8 (0x45 + 8 * y.toNat)) retInt)

/-- O46. IN A,(n) reads port A:n into A and OUT (n),A writes A there, without flags. IN r,(C) reads port BC into r
and sets S, Z, 5, 3 and parity from the byte, H = N = 0, C kept; IN (C) sets only those flags. OUT (C),r writes
r and OUT (C),0 writes 0 to port BC. IN (C) and OUT (C),0 raise UnknownOpcode under UNDOC_OPCODES = unknown. A
read is the byte of the first matching peripheral's callback (a draw, supplied as assumptions 8 and 13 say: the
model's choice) or 0. -/
def Obligations.PortInstructions : Prop :=
  ∀ s : State,
    (∀ n : Byte, decode [0xDB#8, n] = .ok (.inAN n) ∧ decode [0xD3#8, n] = .ok (.outNA n) ∧
      (let p := wordOf s.regs.a n
       exec (.inAN n) s = .next { (input s p).2 with regs := { s.regs with a := (input s p).1 } } ∧
       exec (.outNA n) s = .next (output s p s.regs.a))) ∧
    (let v := (input s (bc s)).1
     let t := (input s (bc s)).2
     let f := resultF v false (cy s.regs.f)
     (∀ r : Reg8, decode [0xED#8, BitVec.ofNat 8 (0x40 + 8 * code r)] = .ok (.inRC r) ∧
       exec (.inRC r) s = .next { t with regs := put { s.regs with f := f } r v }) ∧
     decode [0xED#8, 0x70#8] = .ok .inC ∧
     exec .inC s = orUnknown (undoc s) s .ed 0x70#8 { t with regs := { s.regs with f := f } }) ∧
    (∀ r : Reg8, decode [0xED#8, BitVec.ofNat 8 (0x41 + 8 * code r)] = .ok (.outCR r) ∧
      exec (.outCR r) s = .next (output s (bc s) (get s.regs r))) ∧
    decode [0xED#8, 0x71#8] = .ok .outC0 ∧
    exec .outC0 s = orUnknown (undoc s) s .ed 0x71#8 (output s (bc s) 0#8)

/-- O47. NOP changes nothing; HALT sets halted, PC staying after it; DI clears and EI sets both flip-flops; IM 0, 1
and 2 set the mode, and so do their mirrors where recognized, which raise UnknownOpcode otherwise. Nothing else
changes. -/
def Obligations.CpuControlInstructions : Prop :=
  decode [0x00#8] = .ok .nop ∧ decode [0x76#8] = .ok .halt ∧ decode [0xF3#8] = .ok .di ∧ decode [0xFB#8] = .ok .ei ∧
  decode [0xED#8, 0x46#8] = .ok .im0 ∧ decode [0xED#8, 0x56#8] = .ok .im1 ∧ decode [0xED#8, 0x5E#8] = .ok .im2 ∧
  decode [0xED#8, 0x4E#8] = .ok (.im0Mirror 1) ∧ decode [0xED#8, 0x66#8] = .ok (.im0Mirror 4) ∧
  decode [0xED#8, 0x6E#8] = .ok (.im0Mirror 5) ∧ decode [0xED#8, 0x76#8] = .ok .im1Mirror ∧
  decode [0xED#8, 0x7E#8] = .ok .im2Mirror ∧
  ∀ s : State,
    exec .nop s = .next s ∧ exec .halt s = .next { s with halted := true } ∧
    exec .di s = .next { s with iff0 := false, iff1 := false } ∧
    exec .ei s = .next { s with iff0 := true, iff1 := true } ∧
    exec .im0 s = .next { s with im := .im0 } ∧ exec .im1 s = .next { s with im := .im1 } ∧
    exec .im2 s = .next { s with im := .im2 } ∧
    (∀ y : BitVec 3, exec (.im0Mirror y) s =
      orUnknown (undoc s) s .ed (BitVec.ofNat 8 (0x46 + 8 * y.toNat)) { s with im := .im0 }) ∧
    exec .im1Mirror s = orUnknown (undoc s) s .ed 0x76#8 { s with im := .im1 } ∧
    exec .im2Mirror s = orUnknown (undoc s) s .ed 0x7E#8 { s with im := .im2 }

/-- O48. An ED opcode outside rows 4 to 7 (less 77 and 7F) and the sixteen block opcodes decodes to a hole. With
ED_HOLES = unknown it appends the event (ED, op) to the diagnostic channel and sets halted, and nothing else
changes; with ED_HOLES = nop it changes nothing. -/
def Obligations.HolesOfTheEdTable : Prop :=
  (∀ o : Byte, (o.toNat < 0x40 ∨ (0x80 ≤ o.toNat ∧ o.toNat < 0xA0) ∨ 0xC0 ≤ o.toNat ∨ o = 0x77#8 ∨ o = 0x7F#8 ∨
      (0xA0 ≤ o.toNat ∧ 4 ≤ o.toNat % 8)) → decode [0xED#8, o] = .ok (.edHole o)) ∧
  ∀ (o : Byte) (s : State),
    exec (.edHole o) s = if s.params.edHoles = .nop then .next s else .next (unknown s .ed o)

/-- O49. For every instruction, with any operands, and every state, exec answers a next state. -/
def Obligations.EveryInstructionCompletes : Prop :=
  ∀ (i : Instr) (s : State), ∃ t, exec i s = .next t

/-- O50. In every state, whatever its fields hold, a step is no fault; and inside a run call a step that is refused
is refused for the budget's range only. -/
def Obligations.StepNeverFaults : Prop :=
  (∀ (s : State) (q : Fault), step s ≠ .fault q) ∧
  (∀ (s : State) (q : Refusal), inRun s → step s = .refused q → q = .budgetRange)

/-- O51. When nmi_pending is set, the interrupt check copies IFF0 into IFF1, clears IFF0 and nmi_pending, counts R,
pushes PC (low byte at the new SP), sets PC to 0066H, clears halted and charges INT_ACCEPT_COST(NMI);
irq_pending stays, and no flag, no other register and no other byte of memory changes. The memory is assumed in
its canonical form, which every step keeps. That storing a byte changes what no other address reads rests on the
model's choice that each region has a buffer of its own (assumption 10, unsafe where one buffer is registered
twice). -/
def Obligations.NmiAcceptance : Prop :=
  ∀ s : State, s.nmiPending = true → Memory.wf s.mem = true →
    ∃ m, StoredWord s m (s.sp - 2) s.pc ∧
      s.intCheck = .next { entered s m s.params.intAcceptCost.nmi with
        iff1 := s.iff0, iff0 := false, nmiPending := false, pc := 0x0066#16 }

/-- O52. With no NMI pending, irq_pending set and IFF0 set, the interrupt check clears both flip-flops and
irq_pending, counts R, pushes PC, clears halted, charges the kind's cost and sets PC: mode 1 to 0038H; modes 0
and 2 to I:00 under INT_VECTOR_MODEL = source; under hardware, with data-bus byte b (a draw), mode 0 to b AND
38H if b is an RST, else it is refused, and mode 2 to the word read at I:b after the push. That the data-bus
byte is drawn before the push and that reading it adds no event to the bus record is the model's choice
(assumption 15), and so is that of the table's word the byte at the lower address is read first (assumption 30).
With neither interrupt acceptable nothing changes. The memory is assumed in its canonical form, which every step
keeps. That storing a byte changes what no other address reads rests on the model's choice that each region has
a buffer of its own (assumption 10, unsafe where one buffer is registered twice). -/
def Obligations.IrqAcceptance : Prop :=
  ∀ s : State,
    (NoInterrupt s → s.intCheck = .next s) ∧
    (IrqNext s → Memory.wf s.mem = true →
      ∃ m, StoredWord s m (s.sp - 2) s.pc ∧
        (s.im = .im1 → s.intCheck = .next
          { irqTaken (entered s m s.params.intAcceptCost.im1) with pc := 0x0038#16 }) ∧
        (s.params.intVectorModel = .source → s.im = .im0 → s.intCheck = .next
          { irqTaken (entered s m s.params.intAcceptCost.im0) with pc := wordOf s.i 0#8 }) ∧
        (s.params.intVectorModel = .source → s.im = .im2 → s.intCheck = .next
          { irqTaken (entered s m s.params.intAcceptCost.im2) with pc := wordOf s.i 0#8 }) ∧
        (s.params.intVectorModel = .hardware → s.im = .im0 →
          s.intCheck = if (drew s).1 &&& 0xC7#8 = 0xC7#8
            then .next { irqTaken (entered (drew s).2 m s.params.intAcceptCost.im0) with
              pc := BitVec.ofNat 16 ((drew s).1 &&& 0x38#8).toNat }
            else .refused .im0NotRst) ∧
        (s.params.intVectorModel = .hardware → s.im = .im2 →
          let t := irqTaken (entered (drew s).2 m s.params.intAcceptCost.im2)
          let a := wordOf s.i (drew s).1
          s.intCheck = .next { t with pc := word t a, bus := readWord t a }))

/-- O53. In the state right after reset every general, shadow, index and special register, SP, PC, I, R and the
budget are 0, the flip-flops, pending flags and halted are 0, IM is 0, the active index is HL, the displacement
is 0 and no prefix is pending. -/
def Obligations.StateAfterReset : Prop :=
  ∀ r : Reg8, get State.reset.regs r = 0#8 ∧ get State.reset.shadow r = 0#8 ∧
    State.reset.regs.f = 0#8 ∧ State.reset.shadow.f = 0#8 ∧
    State.reset.ix = 0#16 ∧ State.reset.iy = 0#16 ∧ State.reset.sp = 0#16 ∧ State.reset.pc = 0#16 ∧
    State.reset.i = 0#8 ∧ State.reset.r = 0#8 ∧ State.reset.iff0 = false ∧ State.reset.iff1 = false ∧
    State.reset.im = .im0 ∧ State.reset.nmiPending = false ∧ State.reset.irqPending = false ∧
    State.reset.halted = false ∧ State.reset.budget = 0 ∧ State.reset.xySel = .hl ∧ State.reset.disp = 0#8 ∧
    State.reset.pfx = .none

/-- O54. When the next act of the host is reset, the step sets every register, flip-flop, pending flag, halted, the
budget and the decoder state to its reset value and leaves the buffers, the region list, the peripheral list and
the diagnostic channel unchanged, as R247 says. That the act is taken from a script (assumption 5), and that the
parameters, the bus record and the model's other own fields are unchanged (assumption 27), is the model's
reading and not R247's words. -/
def Obligations.ResetAct : Prop :=
  ∀ (s : State) (acts : List HostAct), s.phase = .idle → s.host = .reset :: acts →
    let zeros : Regs := { a := 0, f := 0, b := 0, c := 0, d := 0, e := 0, h := 0, l := 0 }
    step s = .next { s with
      regs := zeros, shadow := zeros, ix := 0, iy := 0, sp := 0, pc := 0, i := 0, r := 0, iff0 := false, iff1 := false
      im := .im0, nmiPending := false, irqPending := false, halted := false, budget := 0, xySel := .hl, disp := 0
      pfx := .none, host := acts }

/-- O55. An act in phase idle changes only what it names: each 8-bit register of both files, I and R; IX, IY, SP,
PC; each flag of F; IFF0, IFF1, halted, the pending flags (signal_nmi and signal_irq set them); IM for 0, 1 and
2; the budget within the signed 32-bit range; IM above 2 and a budget outside the range are refused. A
registered region is the last of the list with the bytes of its buffer, and is refused above 0x10000 bytes or
with a short buffer; a registered peripheral is the last of the list. A change of a byte below its region's size
changes that byte, any other changes nothing. Resuming a snapshot pops PC and copies IFF0 into IFF1. The model's
choices in it: the script of acts (assumption 5), the accessor list (28), the keys of the buffers (10),
registration between any two runs (24), bytes no region reaches (29), no bus event for the host's reads (22).
The canonical form of the memory is assumed where a buffer is written, and kept. -/
def Obligations.HostActs : Prop :=
  ∀ (s : State) (acts : List HostAct), s.phase = .idle →
    let t := { s with host := acts }
    let acted (act : HostAct) : Answer := step { s with host := act :: acts }
    (∀ (r : Reg8) (v : Byte), acted (.setReg8 (mainReg r) v) = .next { t with regs := put s.regs r v } ∧
      acted (.setReg8 (shadowReg r) v) = .next { t with shadow := put s.shadow r v }) ∧
    (∀ v, acted (.setReg8 .f v) = .next { t with regs := { s.regs with f := v } } ∧
      acted (.setReg8 .f' v) = .next { t with shadow := { s.shadow with f := v } } ∧
      acted (.setReg8 .i v) = .next { t with i := v } ∧ acted (.setReg8 .r v) = .next { t with r := v }) ∧
    (∀ v, acted (.setReg16 .ix v) = .next { t with ix := v } ∧ acted (.setReg16 .iy v) = .next { t with iy := v } ∧
      acted (.setReg16 .sp v) = .next { t with sp := v } ∧ acted (.setReg16 .pc v) = .next { t with pc := v }) ∧
    (∀ (k : FlagName) (v : Bool), acted (.setFlag k v) = .next { t with regs := { s.regs with f := withFlag s.regs.f k v } }) ∧
    (∀ v, acted (.setIff0 v) = .next { t with iff0 := v } ∧ acted (.setIff1 v) = .next { t with iff1 := v } ∧
      acted (.setHalted v) = .next { t with halted := v } ∧
      acted (.setNmiPending v) = .next { t with nmiPending := v } ∧
      acted (.setIrqPending v) = .next { t with irqPending := v }) ∧
    acted .signalNmi = .next { t with nmiPending := true } ∧ acted .signalIrq = .next { t with irqPending := true } ∧
    acted (.setIm 0) = .next { t with im := .im0 } ∧ acted (.setIm 1) = .next { t with im := .im1 } ∧
    acted (.setIm 2) = .next { t with im := .im2 } ∧ (∀ k, acted (.setIm (k + 3)) = .refused .illegalIm) ∧
    (∀ v, InRange v → acted (.setBudget v) = .next { t with budget := v }) ∧
    (∀ v, ¬ InRange v → acted (.setBudget v) = .refused .budgetRange) ∧
    (∀ (base : Word) (size : Nat) (kind : RegionKind) (buffer : List Byte),
      (size ≤ 0x10000 → size ≤ buffer.length → Memory.wf s.mem = true →
        ∃ m, Memory.wf m = true ∧
          (∀ j, memRead m j =
            if s.regions.length * 65536 ≤ j ∧ j < s.regions.length * 65536 + size
            then buffer.getD (j - s.regions.length * 65536) 0#8 else memRead s.mem j) ∧
          acted (.registerRegion base size kind buffer) = .next { t with
            regions := s.regions ++ [{ base := base, size := size, kind := kind }], mem := m }) ∧
      (0x10000 < size ∨ buffer.length < size → acted (.registerRegion base size kind buffer) = .refused .badRegion)) ∧
    (∀ (mask pattern : Word) (hasRead hasWrite : Bool),
      acted (.registerPeripheral mask pattern hasRead hasWrite) = .next { t with peripherals :=
        s.peripherals ++ [{ mask := mask, pattern := pattern, hasRead := hasRead, hasWrite := hasWrite }] }) ∧
    (∀ (k offset : Nat) (v : Byte),
      (∀ g, s.regions[k]? = some g → offset < g.size → Memory.wf s.mem = true →
        ∃ m, Memory.wf m = true ∧ (∀ j, memRead m j = if j = k * 65536 + offset then v else memRead s.mem j) ∧
          acted (.pokeBuffer k offset v) = .next { t with mem := m }) ∧
      ((∀ g, s.regions[k]? = some g → g.size ≤ offset) → acted (.pokeBuffer k offset v) = .next t)) ∧
    acted .resumeSnapshot = .next { t with pc := word s s.sp, sp := s.sp + 2, iff1 := s.iff0 }

/-- O56. A read gives the byte at offset (a - b) mod 2^16 of the first matching region's buffer, or UNMAPPED_READ
where none matches. A write changes that byte of the first matching region if it is read-write, and otherwise no
byte; every other address reads as before; the written address then reads the value written. Only memory and the
bus record change. That the byte stands at the key k * 65536 + offset, and that every other address reads as
before, rests on the model's choice that each region has a buffer of its own (assumption 10, unsafe where one
buffer is registered twice). The canonical form of the memory is assumed for the write, and kept. -/
def Obligations.BusReadsAndWrites : Prop :=
  (∀ (s : State) (a : Word) (k : Nat) (g : Region), FirstHit s.regions k g a →
    s.peek a = memRead s.mem (k * 65536 + (a.toNat + 65536 - g.base.toNat) % 65536)) ∧
  (∀ (s : State) (a : Word), (∀ g, g ∈ s.regions → ¬ hits g a) → s.peek a = s.params.unmappedRead) ∧
  (∀ (s : State) (a : Word) (v : Byte), Memory.wf s.mem = true →
    Stored s (s.write8 a v).mem a v ∧
    s.write8 a v = { s with mem := (s.write8 a v).mem, bus := .memWrite a v :: s.bus } ∧
    (∀ (k : Nat) (g : Region), FirstHit s.regions k g a → g.kind = .rw →
      ∀ j, memRead (s.write8 a v).mem j =
        if j = k * 65536 + (a.toNat + 65536 - g.base.toNat) % 65536 then v else memRead s.mem j) ∧
    (writable s a = false → (s.write8 a v).mem = s.mem))

/-- O57. For every state inside a run call and every step that answers a next state: every address whose first
matching region is read-only, or that no region matches, reads after the step what it read before, whatever
instruction ran. The interrupt check keeps it too. It rests on the model's choice that each region has a buffer
of its own (assumption 10): it would be false of a machine in which the host registers one buffer both as a
read-only and as a read-write region. -/
def Obligations.RomKeepsItsBytes : Prop :=
  (∀ (s t : State), inRun s → step s = .next t →
    ∀ a : Word, writable s a = false → t.peek a = s.peek a) ∧
  (∀ (s t : State), s.intCheck = .next t → ∀ a : Word, writable s a = false → t.peek a = s.peek a)

/-- O58. When exec answers a next state: the parameters, regions, peripherals, pending flags, run phase and host
script are unchanged, the diagnostic channel and the bus record only grew and the budget did not rise. I changes
only by LD I,A; R by LD R,A; IM by IM 0/1/2 and their mirrors; IFF1 by DI and EI; IFF0 by DI, EI, RETN, RETI and
the RETN mirrors; the shadow registers by EX AF,AF' and EXX; halted by HALT and by an instruction the parameters
leave unrecognized. (The fetch counts R: another statement.) -/
def Obligations.WhoWritesControlState : Prop :=
  ∀ (i : Instr) (s t : State), exec i s = .next t →
    t.params = s.params ∧ t.regions = s.regions ∧ t.peripherals = s.peripherals ∧
    t.nmiPending = s.nmiPending ∧ t.irqPending = s.irqPending ∧ t.phase = s.phase ∧ t.host = s.host ∧
    Grew s.diag t.diag ∧ Grew s.bus t.bus ∧ t.budget ≤ s.budget ∧
    (t.i = s.i ∨ i = .ldIA) ∧ (t.r = s.r ∨ i = .ldRA) ∧
    (t.im = s.im ∨ i = .im0 ∨ i = .im1 ∨ i = .im2 ∨ (∃ y, i = .im0Mirror y) ∨ i = .im1Mirror ∨ i = .im2Mirror) ∧
    (t.iff1 = s.iff1 ∨ i = .di ∨ i = .ei) ∧
    (t.iff0 = s.iff0 ∨ i = .di ∨ i = .ei ∨ i = .retn ∨ i = .reti ∨ ∃ y, i = .retnMirror y) ∧
    (t.shadow = s.shadow ∨ i = .exAfAf ∨ i = .exx) ∧
    (t.halted = s.halted ∨ i = .halt ∨ i.recognized s.params = false) ∧
    (t.diag = s.diag ∨ i.recognized s.params = false)

/-- O59. If a state has its memory in canonical form with every listed byte in a registered region's buffer, no
region above 0x10000 bytes, the decoder state of a boundary whenever no run is in progress (displacement 0, and
HL active after ED), and a budget in the signed 32-bit range at every boundary, then so has the state after any
step that answers a next state: an act of the host, an interrupt acceptance, an instruction or a prefix byte.
The invariant is in the model's own terms: the keys of the buffers (assumption 10), the decoder state between
steps (assumptions 6 and 7), where the budget's range is tested (assumption 11). -/
def Obligations.StepKeepsInvariant : Prop :=
  ∀ s t : State, s.inv = true → step s = .next t → t.inv = true

/-- O60. The state right after reset meets the invariant that every step keeps. -/
def Obligations.ResetMeetsInvariant : Prop :=
  State.reset.inv = true
end

