-- ==== Sys2Proof/Laws/Bits.lean ====
section
/-! SUPPORT. Small laws of bytes and words, of the operand codes, and of the decoder's cases. -/

namespace Sys2Proof

theorem hiByte_mkWord (hi lo : Byte) : hiByte (mkWord hi lo) = hi := by
  apply BitVec.eq_of_toNat_eq
  simp only [hiByte, mkWord, BitVec.extractLsb'_toNat, BitVec.toNat_append]
  have := hi.isLt; have := lo.isLt
  rw [← Nat.shiftLeft_add_eq_or_of_lt (by omega), Nat.shiftLeft_eq, Nat.shiftRight_eq_div_pow]
  omega

theorem loByte_mkWord (hi lo : Byte) : loByte (mkWord hi lo) = lo := by
  apply BitVec.eq_of_toNat_eq
  simp only [loByte, mkWord, BitVec.extractLsb'_toNat, BitVec.toNat_append]
  have := hi.isLt; have := lo.isLt
  rw [← Nat.shiftLeft_add_eq_or_of_lt (by omega), Nat.shiftLeft_eq, Nat.shiftRight_eq_div_pow]
  omega

theorem mkWord_toNat (hi lo : Byte) : (mkWord hi lo).toNat = 256 * hi.toNat + lo.toNat := by
  have := hi.isLt; have := lo.isLt
  simp only [mkWord, BitVec.toNat_append]
  rw [← Nat.shiftLeft_add_eq_or_of_lt (by omega), Nat.shiftLeft_eq]
  omega

theorem hiByte_toNat (w : Word) : (hiByte w).toNat = w.toNat / 256 := by
  have := w.isLt
  simp only [hiByte, BitVec.extractLsb'_toNat, Nat.shiftRight_eq_div_pow]
  omega

theorem loByte_toNat (w : Word) : (loByte w).toNat = w.toNat % 256 := by
  simp only [loByte, BitVec.extractLsb'_toNat, Nat.shiftRight_eq_div_pow]
  omega

theorem mkWord_hi_lo (w : Word) : mkWord (hiByte w) (loByte w) = w := by
  apply BitVec.eq_of_toNat_eq
  rw [mkWord_toNat, hiByte_toNat, loByte_toNat]
  omega

/-- Every 3-bit field is one of eight. -/
theorem bv3_cases (b : BitVec 3) :
    b = 0 ∨ b = 1 ∨ b = 2 ∨ b = 3 ∨ b = 4 ∨ b = 5 ∨ b = 6 ∨ b = 7 := by
  revert b; decide

/-- A hole of the ED table decodes to itself (R94). -/
theorem decode_hole (o : Byte) (h : (Instr.edHole o).wf = true) : decode [0xED#8, o] = .ok (.edHole o) := by
  have h' : edDefined o = false := by simpa [Instr.wf] using h
  show decodeEd o [] = .ok (.edHole o)
  simp [decodeEd, h']

/-- A DD or FD byte before an opcode that does not use HL (R87). -/
theorem decode_unused (x : Idx) (o : Byte) (h : (Instr.xyPrefixHlNotUsed x o).wf = true) :
    decode [x.byte, o] = .ok (.xyPrefixHlNotUsed x o) := by
  simp only [Instr.wf, isPrefixByte, Bool.and_eq_true, Bool.not_eq_true', Bool.or_eq_false_iff, beq_eq_false_iff_ne,
    ne_eq] at h
  obtain ⟨ha, ⟨⟨hcb, hdd⟩, hed⟩, hfd⟩ := h
  have hx : decode [x.byte, o] = decodeXy x [o] := by cases x <;> rfl
  rw [hx]
  simp [decodeXy, idxOf, hdd, hfd, hed, hcb, ha]

end Sys2Proof
end

