-- ==== Sys2Proof/Laws/State.lean ====
section
/-! SUPPORT. What each primitive update of State leaves in each field, one lemma per field, so that no proof unfolds a record
update. -/

namespace Sys2Proof.Machine

@[simp] theorem State.log_regs (s : State) (e : BusEvent) : (s.log e).regs = s.regs := rfl
@[simp] theorem State.log_shadow (s : State) (e : BusEvent) : (s.log e).shadow = s.shadow := rfl
@[simp] theorem State.log_ix (s : State) (e : BusEvent) : (s.log e).ix = s.ix := rfl
@[simp] theorem State.log_iy (s : State) (e : BusEvent) : (s.log e).iy = s.iy := rfl
@[simp] theorem State.log_sp (s : State) (e : BusEvent) : (s.log e).sp = s.sp := rfl
@[simp] theorem State.log_pc (s : State) (e : BusEvent) : (s.log e).pc = s.pc := rfl
@[simp] theorem State.log_i (s : State) (e : BusEvent) : (s.log e).i = s.i := rfl
@[simp] theorem State.log_r (s : State) (e : BusEvent) : (s.log e).r = s.r := rfl
@[simp] theorem State.log_iff0 (s : State) (e : BusEvent) : (s.log e).iff0 = s.iff0 := rfl
@[simp] theorem State.log_iff1 (s : State) (e : BusEvent) : (s.log e).iff1 = s.iff1 := rfl
@[simp] theorem State.log_im (s : State) (e : BusEvent) : (s.log e).im = s.im := rfl
@[simp] theorem State.log_nmiPending (s : State) (e : BusEvent) : (s.log e).nmiPending = s.nmiPending := rfl
@[simp] theorem State.log_irqPending (s : State) (e : BusEvent) : (s.log e).irqPending = s.irqPending := rfl
@[simp] theorem State.log_halted (s : State) (e : BusEvent) : (s.log e).halted = s.halted := rfl
@[simp] theorem State.log_budget (s : State) (e : BusEvent) : (s.log e).budget = s.budget := rfl
@[simp] theorem State.log_xySel (s : State) (e : BusEvent) : (s.log e).xySel = s.xySel := rfl
@[simp] theorem State.log_disp (s : State) (e : BusEvent) : (s.log e).disp = s.disp := rfl
@[simp] theorem State.log_pfx (s : State) (e : BusEvent) : (s.log e).pfx = s.pfx := rfl
@[simp] theorem State.log_phase (s : State) (e : BusEvent) : (s.log e).phase = s.phase := rfl
@[simp] theorem State.log_regions (s : State) (e : BusEvent) : (s.log e).regions = s.regions := rfl
@[simp] theorem State.log_mem (s : State) (e : BusEvent) : (s.log e).mem = s.mem := rfl
@[simp] theorem State.log_peripherals (s : State) (e : BusEvent) : (s.log e).peripherals = s.peripherals := rfl
@[simp] theorem State.log_diag (s : State) (e : BusEvent) : (s.log e).diag = s.diag := rfl
@[simp] theorem State.log_bus (s : State) (e : BusEvent) : (s.log e).bus = e :: s.bus := rfl
@[simp] theorem State.log_params (s : State) (e : BusEvent) : (s.log e).params = s.params := rfl
@[simp] theorem State.log_host (s : State) (e : BusEvent) : (s.log e).host = s.host := rfl
@[simp] theorem State.log_inputs (s : State) (e : BusEvent) : (s.log e).inputs = s.inputs := rfl
@[simp] theorem State.log_draws (s : State) (e : BusEvent) : (s.log e).draws = s.draws := rfl

@[simp] theorem State.write8_regs (s : State) (a : Word) (v : Byte) : (s.write8 a v).regs = s.regs := rfl
@[simp] theorem State.write8_shadow (s : State) (a : Word) (v : Byte) : (s.write8 a v).shadow = s.shadow := rfl
@[simp] theorem State.write8_ix (s : State) (a : Word) (v : Byte) : (s.write8 a v).ix = s.ix := rfl
@[simp] theorem State.write8_iy (s : State) (a : Word) (v : Byte) : (s.write8 a v).iy = s.iy := rfl
@[simp] theorem State.write8_sp (s : State) (a : Word) (v : Byte) : (s.write8 a v).sp = s.sp := rfl
@[simp] theorem State.write8_pc (s : State) (a : Word) (v : Byte) : (s.write8 a v).pc = s.pc := rfl
@[simp] theorem State.write8_i (s : State) (a : Word) (v : Byte) : (s.write8 a v).i = s.i := rfl
@[simp] theorem State.write8_r (s : State) (a : Word) (v : Byte) : (s.write8 a v).r = s.r := rfl
@[simp] theorem State.write8_iff0 (s : State) (a : Word) (v : Byte) : (s.write8 a v).iff0 = s.iff0 := rfl
@[simp] theorem State.write8_iff1 (s : State) (a : Word) (v : Byte) : (s.write8 a v).iff1 = s.iff1 := rfl
@[simp] theorem State.write8_im (s : State) (a : Word) (v : Byte) : (s.write8 a v).im = s.im := rfl
@[simp] theorem State.write8_nmiPending (s : State) (a : Word) (v : Byte) : (s.write8 a v).nmiPending = s.nmiPending := rfl
@[simp] theorem State.write8_irqPending (s : State) (a : Word) (v : Byte) : (s.write8 a v).irqPending = s.irqPending := rfl
@[simp] theorem State.write8_halted (s : State) (a : Word) (v : Byte) : (s.write8 a v).halted = s.halted := rfl
@[simp] theorem State.write8_budget (s : State) (a : Word) (v : Byte) : (s.write8 a v).budget = s.budget := rfl
@[simp] theorem State.write8_xySel (s : State) (a : Word) (v : Byte) : (s.write8 a v).xySel = s.xySel := rfl
@[simp] theorem State.write8_disp (s : State) (a : Word) (v : Byte) : (s.write8 a v).disp = s.disp := rfl
@[simp] theorem State.write8_pfx (s : State) (a : Word) (v : Byte) : (s.write8 a v).pfx = s.pfx := rfl
@[simp] theorem State.write8_phase (s : State) (a : Word) (v : Byte) : (s.write8 a v).phase = s.phase := rfl
@[simp] theorem State.write8_regions (s : State) (a : Word) (v : Byte) : (s.write8 a v).regions = s.regions := rfl
@[simp] theorem State.write8_mem (s : State) (a : Word) (v : Byte) : (s.write8 a v).mem = s.stored a v := rfl
@[simp] theorem State.write8_peripherals (s : State) (a : Word) (v : Byte) : (s.write8 a v).peripherals = s.peripherals := rfl
@[simp] theorem State.write8_diag (s : State) (a : Word) (v : Byte) : (s.write8 a v).diag = s.diag := rfl
@[simp] theorem State.write8_bus (s : State) (a : Word) (v : Byte) : (s.write8 a v).bus = .memWrite a v :: s.bus := rfl
@[simp] theorem State.write8_params (s : State) (a : Word) (v : Byte) : (s.write8 a v).params = s.params := rfl
@[simp] theorem State.write8_host (s : State) (a : Word) (v : Byte) : (s.write8 a v).host = s.host := rfl
@[simp] theorem State.write8_inputs (s : State) (a : Word) (v : Byte) : (s.write8 a v).inputs = s.inputs := rfl
@[simp] theorem State.write8_draws (s : State) (a : Word) (v : Byte) : (s.write8 a v).draws = s.draws := rfl

@[simp] theorem State.noteRead_regs (s : State) (a : Word) : (s.noteRead a).regs = s.regs := rfl
@[simp] theorem State.noteRead_shadow (s : State) (a : Word) : (s.noteRead a).shadow = s.shadow := rfl
@[simp] theorem State.noteRead_ix (s : State) (a : Word) : (s.noteRead a).ix = s.ix := rfl
@[simp] theorem State.noteRead_iy (s : State) (a : Word) : (s.noteRead a).iy = s.iy := rfl
@[simp] theorem State.noteRead_sp (s : State) (a : Word) : (s.noteRead a).sp = s.sp := rfl
@[simp] theorem State.noteRead_pc (s : State) (a : Word) : (s.noteRead a).pc = s.pc := rfl
@[simp] theorem State.noteRead_i (s : State) (a : Word) : (s.noteRead a).i = s.i := rfl
@[simp] theorem State.noteRead_r (s : State) (a : Word) : (s.noteRead a).r = s.r := rfl
@[simp] theorem State.noteRead_iff0 (s : State) (a : Word) : (s.noteRead a).iff0 = s.iff0 := rfl
@[simp] theorem State.noteRead_iff1 (s : State) (a : Word) : (s.noteRead a).iff1 = s.iff1 := rfl
@[simp] theorem State.noteRead_im (s : State) (a : Word) : (s.noteRead a).im = s.im := rfl
@[simp] theorem State.noteRead_nmiPending (s : State) (a : Word) : (s.noteRead a).nmiPending = s.nmiPending := rfl
@[simp] theorem State.noteRead_irqPending (s : State) (a : Word) : (s.noteRead a).irqPending = s.irqPending := rfl
@[simp] theorem State.noteRead_halted (s : State) (a : Word) : (s.noteRead a).halted = s.halted := rfl
@[simp] theorem State.noteRead_budget (s : State) (a : Word) : (s.noteRead a).budget = s.budget := rfl
@[simp] theorem State.noteRead_xySel (s : State) (a : Word) : (s.noteRead a).xySel = s.xySel := rfl
@[simp] theorem State.noteRead_disp (s : State) (a : Word) : (s.noteRead a).disp = s.disp := rfl
@[simp] theorem State.noteRead_pfx (s : State) (a : Word) : (s.noteRead a).pfx = s.pfx := rfl
@[simp] theorem State.noteRead_phase (s : State) (a : Word) : (s.noteRead a).phase = s.phase := rfl
@[simp] theorem State.noteRead_regions (s : State) (a : Word) : (s.noteRead a).regions = s.regions := rfl
@[simp] theorem State.noteRead_mem (s : State) (a : Word) : (s.noteRead a).mem = s.mem := rfl
@[simp] theorem State.noteRead_peripherals (s : State) (a : Word) : (s.noteRead a).peripherals = s.peripherals := rfl
@[simp] theorem State.noteRead_diag (s : State) (a : Word) : (s.noteRead a).diag = s.diag := rfl
@[simp] theorem State.noteRead_bus (s : State) (a : Word) : (s.noteRead a).bus = .memRead a (s.peek a) :: s.bus := rfl
@[simp] theorem State.noteRead_params (s : State) (a : Word) : (s.noteRead a).params = s.params := rfl
@[simp] theorem State.noteRead_host (s : State) (a : Word) : (s.noteRead a).host = s.host := rfl
@[simp] theorem State.noteRead_inputs (s : State) (a : Word) : (s.noteRead a).inputs = s.inputs := rfl
@[simp] theorem State.noteRead_draws (s : State) (a : Word) : (s.noteRead a).draws = s.draws := rfl

@[simp] theorem State.setA_regs (s : State) (v : Byte) : (s.setA v).regs = { s.regs with a := v } := rfl
@[simp] theorem State.setA_shadow (s : State) (v : Byte) : (s.setA v).shadow = s.shadow := rfl
@[simp] theorem State.setA_ix (s : State) (v : Byte) : (s.setA v).ix = s.ix := rfl
@[simp] theorem State.setA_iy (s : State) (v : Byte) : (s.setA v).iy = s.iy := rfl
@[simp] theorem State.setA_sp (s : State) (v : Byte) : (s.setA v).sp = s.sp := rfl
@[simp] theorem State.setA_pc (s : State) (v : Byte) : (s.setA v).pc = s.pc := rfl
@[simp] theorem State.setA_i (s : State) (v : Byte) : (s.setA v).i = s.i := rfl
@[simp] theorem State.setA_r (s : State) (v : Byte) : (s.setA v).r = s.r := rfl
@[simp] theorem State.setA_iff0 (s : State) (v : Byte) : (s.setA v).iff0 = s.iff0 := rfl
@[simp] theorem State.setA_iff1 (s : State) (v : Byte) : (s.setA v).iff1 = s.iff1 := rfl
@[simp] theorem State.setA_im (s : State) (v : Byte) : (s.setA v).im = s.im := rfl
@[simp] theorem State.setA_nmiPending (s : State) (v : Byte) : (s.setA v).nmiPending = s.nmiPending := rfl
@[simp] theorem State.setA_irqPending (s : State) (v : Byte) : (s.setA v).irqPending = s.irqPending := rfl
@[simp] theorem State.setA_halted (s : State) (v : Byte) : (s.setA v).halted = s.halted := rfl
@[simp] theorem State.setA_budget (s : State) (v : Byte) : (s.setA v).budget = s.budget := rfl
@[simp] theorem State.setA_xySel (s : State) (v : Byte) : (s.setA v).xySel = s.xySel := rfl
@[simp] theorem State.setA_disp (s : State) (v : Byte) : (s.setA v).disp = s.disp := rfl
@[simp] theorem State.setA_pfx (s : State) (v : Byte) : (s.setA v).pfx = s.pfx := rfl
@[simp] theorem State.setA_phase (s : State) (v : Byte) : (s.setA v).phase = s.phase := rfl
@[simp] theorem State.setA_regions (s : State) (v : Byte) : (s.setA v).regions = s.regions := rfl
@[simp] theorem State.setA_mem (s : State) (v : Byte) : (s.setA v).mem = s.mem := rfl
@[simp] theorem State.setA_peripherals (s : State) (v : Byte) : (s.setA v).peripherals = s.peripherals := rfl
@[simp] theorem State.setA_diag (s : State) (v : Byte) : (s.setA v).diag = s.diag := rfl
@[simp] theorem State.setA_bus (s : State) (v : Byte) : (s.setA v).bus = s.bus := rfl
@[simp] theorem State.setA_params (s : State) (v : Byte) : (s.setA v).params = s.params := rfl
@[simp] theorem State.setA_host (s : State) (v : Byte) : (s.setA v).host = s.host := rfl
@[simp] theorem State.setA_inputs (s : State) (v : Byte) : (s.setA v).inputs = s.inputs := rfl
@[simp] theorem State.setA_draws (s : State) (v : Byte) : (s.setA v).draws = s.draws := rfl

@[simp] theorem State.setF_regs (s : State) (v : Byte) : (s.setF v).regs = { s.regs with f := v } := rfl
@[simp] theorem State.setF_shadow (s : State) (v : Byte) : (s.setF v).shadow = s.shadow := rfl
@[simp] theorem State.setF_ix (s : State) (v : Byte) : (s.setF v).ix = s.ix := rfl
@[simp] theorem State.setF_iy (s : State) (v : Byte) : (s.setF v).iy = s.iy := rfl
@[simp] theorem State.setF_sp (s : State) (v : Byte) : (s.setF v).sp = s.sp := rfl
@[simp] theorem State.setF_pc (s : State) (v : Byte) : (s.setF v).pc = s.pc := rfl
@[simp] theorem State.setF_i (s : State) (v : Byte) : (s.setF v).i = s.i := rfl
@[simp] theorem State.setF_r (s : State) (v : Byte) : (s.setF v).r = s.r := rfl
@[simp] theorem State.setF_iff0 (s : State) (v : Byte) : (s.setF v).iff0 = s.iff0 := rfl
@[simp] theorem State.setF_iff1 (s : State) (v : Byte) : (s.setF v).iff1 = s.iff1 := rfl
@[simp] theorem State.setF_im (s : State) (v : Byte) : (s.setF v).im = s.im := rfl
@[simp] theorem State.setF_nmiPending (s : State) (v : Byte) : (s.setF v).nmiPending = s.nmiPending := rfl
@[simp] theorem State.setF_irqPending (s : State) (v : Byte) : (s.setF v).irqPending = s.irqPending := rfl
@[simp] theorem State.setF_halted (s : State) (v : Byte) : (s.setF v).halted = s.halted := rfl
@[simp] theorem State.setF_budget (s : State) (v : Byte) : (s.setF v).budget = s.budget := rfl
@[simp] theorem State.setF_xySel (s : State) (v : Byte) : (s.setF v).xySel = s.xySel := rfl
@[simp] theorem State.setF_disp (s : State) (v : Byte) : (s.setF v).disp = s.disp := rfl
@[simp] theorem State.setF_pfx (s : State) (v : Byte) : (s.setF v).pfx = s.pfx := rfl
@[simp] theorem State.setF_phase (s : State) (v : Byte) : (s.setF v).phase = s.phase := rfl
@[simp] theorem State.setF_regions (s : State) (v : Byte) : (s.setF v).regions = s.regions := rfl
@[simp] theorem State.setF_mem (s : State) (v : Byte) : (s.setF v).mem = s.mem := rfl
@[simp] theorem State.setF_peripherals (s : State) (v : Byte) : (s.setF v).peripherals = s.peripherals := rfl
@[simp] theorem State.setF_diag (s : State) (v : Byte) : (s.setF v).diag = s.diag := rfl
@[simp] theorem State.setF_bus (s : State) (v : Byte) : (s.setF v).bus = s.bus := rfl
@[simp] theorem State.setF_params (s : State) (v : Byte) : (s.setF v).params = s.params := rfl
@[simp] theorem State.setF_host (s : State) (v : Byte) : (s.setF v).host = s.host := rfl
@[simp] theorem State.setF_inputs (s : State) (v : Byte) : (s.setF v).inputs = s.inputs := rfl
@[simp] theorem State.setF_draws (s : State) (v : Byte) : (s.setF v).draws = s.draws := rfl

@[simp] theorem State.setB_regs (s : State) (v : Byte) : (s.setB v).regs = { s.regs with b := v } := rfl
@[simp] theorem State.setB_shadow (s : State) (v : Byte) : (s.setB v).shadow = s.shadow := rfl
@[simp] theorem State.setB_ix (s : State) (v : Byte) : (s.setB v).ix = s.ix := rfl
@[simp] theorem State.setB_iy (s : State) (v : Byte) : (s.setB v).iy = s.iy := rfl
@[simp] theorem State.setB_sp (s : State) (v : Byte) : (s.setB v).sp = s.sp := rfl
@[simp] theorem State.setB_pc (s : State) (v : Byte) : (s.setB v).pc = s.pc := rfl
@[simp] theorem State.setB_i (s : State) (v : Byte) : (s.setB v).i = s.i := rfl
@[simp] theorem State.setB_r (s : State) (v : Byte) : (s.setB v).r = s.r := rfl
@[simp] theorem State.setB_iff0 (s : State) (v : Byte) : (s.setB v).iff0 = s.iff0 := rfl
@[simp] theorem State.setB_iff1 (s : State) (v : Byte) : (s.setB v).iff1 = s.iff1 := rfl
@[simp] theorem State.setB_im (s : State) (v : Byte) : (s.setB v).im = s.im := rfl
@[simp] theorem State.setB_nmiPending (s : State) (v : Byte) : (s.setB v).nmiPending = s.nmiPending := rfl
@[simp] theorem State.setB_irqPending (s : State) (v : Byte) : (s.setB v).irqPending = s.irqPending := rfl
@[simp] theorem State.setB_halted (s : State) (v : Byte) : (s.setB v).halted = s.halted := rfl
@[simp] theorem State.setB_budget (s : State) (v : Byte) : (s.setB v).budget = s.budget := rfl
@[simp] theorem State.setB_xySel (s : State) (v : Byte) : (s.setB v).xySel = s.xySel := rfl
@[simp] theorem State.setB_disp (s : State) (v : Byte) : (s.setB v).disp = s.disp := rfl
@[simp] theorem State.setB_pfx (s : State) (v : Byte) : (s.setB v).pfx = s.pfx := rfl
@[simp] theorem State.setB_phase (s : State) (v : Byte) : (s.setB v).phase = s.phase := rfl
@[simp] theorem State.setB_regions (s : State) (v : Byte) : (s.setB v).regions = s.regions := rfl
@[simp] theorem State.setB_mem (s : State) (v : Byte) : (s.setB v).mem = s.mem := rfl
@[simp] theorem State.setB_peripherals (s : State) (v : Byte) : (s.setB v).peripherals = s.peripherals := rfl
@[simp] theorem State.setB_diag (s : State) (v : Byte) : (s.setB v).diag = s.diag := rfl
@[simp] theorem State.setB_bus (s : State) (v : Byte) : (s.setB v).bus = s.bus := rfl
@[simp] theorem State.setB_params (s : State) (v : Byte) : (s.setB v).params = s.params := rfl
@[simp] theorem State.setB_host (s : State) (v : Byte) : (s.setB v).host = s.host := rfl
@[simp] theorem State.setB_inputs (s : State) (v : Byte) : (s.setB v).inputs = s.inputs := rfl
@[simp] theorem State.setB_draws (s : State) (v : Byte) : (s.setB v).draws = s.draws := rfl

@[simp] theorem State.setAf_regs (s : State) (v : Word) : (s.setAf v).regs = { s.regs with a := hiByte v, f := loByte v } := rfl
@[simp] theorem State.setAf_shadow (s : State) (v : Word) : (s.setAf v).shadow = s.shadow := rfl
@[simp] theorem State.setAf_ix (s : State) (v : Word) : (s.setAf v).ix = s.ix := rfl
@[simp] theorem State.setAf_iy (s : State) (v : Word) : (s.setAf v).iy = s.iy := rfl
@[simp] theorem State.setAf_sp (s : State) (v : Word) : (s.setAf v).sp = s.sp := rfl
@[simp] theorem State.setAf_pc (s : State) (v : Word) : (s.setAf v).pc = s.pc := rfl
@[simp] theorem State.setAf_i (s : State) (v : Word) : (s.setAf v).i = s.i := rfl
@[simp] theorem State.setAf_r (s : State) (v : Word) : (s.setAf v).r = s.r := rfl
@[simp] theorem State.setAf_iff0 (s : State) (v : Word) : (s.setAf v).iff0 = s.iff0 := rfl
@[simp] theorem State.setAf_iff1 (s : State) (v : Word) : (s.setAf v).iff1 = s.iff1 := rfl
@[simp] theorem State.setAf_im (s : State) (v : Word) : (s.setAf v).im = s.im := rfl
@[simp] theorem State.setAf_nmiPending (s : State) (v : Word) : (s.setAf v).nmiPending = s.nmiPending := rfl
@[simp] theorem State.setAf_irqPending (s : State) (v : Word) : (s.setAf v).irqPending = s.irqPending := rfl
@[simp] theorem State.setAf_halted (s : State) (v : Word) : (s.setAf v).halted = s.halted := rfl
@[simp] theorem State.setAf_budget (s : State) (v : Word) : (s.setAf v).budget = s.budget := rfl
@[simp] theorem State.setAf_xySel (s : State) (v : Word) : (s.setAf v).xySel = s.xySel := rfl
@[simp] theorem State.setAf_disp (s : State) (v : Word) : (s.setAf v).disp = s.disp := rfl
@[simp] theorem State.setAf_pfx (s : State) (v : Word) : (s.setAf v).pfx = s.pfx := rfl
@[simp] theorem State.setAf_phase (s : State) (v : Word) : (s.setAf v).phase = s.phase := rfl
@[simp] theorem State.setAf_regions (s : State) (v : Word) : (s.setAf v).regions = s.regions := rfl
@[simp] theorem State.setAf_mem (s : State) (v : Word) : (s.setAf v).mem = s.mem := rfl
@[simp] theorem State.setAf_peripherals (s : State) (v : Word) : (s.setAf v).peripherals = s.peripherals := rfl
@[simp] theorem State.setAf_diag (s : State) (v : Word) : (s.setAf v).diag = s.diag := rfl
@[simp] theorem State.setAf_bus (s : State) (v : Word) : (s.setAf v).bus = s.bus := rfl
@[simp] theorem State.setAf_params (s : State) (v : Word) : (s.setAf v).params = s.params := rfl
@[simp] theorem State.setAf_host (s : State) (v : Word) : (s.setAf v).host = s.host := rfl
@[simp] theorem State.setAf_inputs (s : State) (v : Word) : (s.setAf v).inputs = s.inputs := rfl
@[simp] theorem State.setAf_draws (s : State) (v : Word) : (s.setAf v).draws = s.draws := rfl

@[simp] theorem State.setBc_regs (s : State) (v : Word) : (s.setBc v).regs = { s.regs with b := hiByte v, c := loByte v } := rfl
@[simp] theorem State.setBc_shadow (s : State) (v : Word) : (s.setBc v).shadow = s.shadow := rfl
@[simp] theorem State.setBc_ix (s : State) (v : Word) : (s.setBc v).ix = s.ix := rfl
@[simp] theorem State.setBc_iy (s : State) (v : Word) : (s.setBc v).iy = s.iy := rfl
@[simp] theorem State.setBc_sp (s : State) (v : Word) : (s.setBc v).sp = s.sp := rfl
@[simp] theorem State.setBc_pc (s : State) (v : Word) : (s.setBc v).pc = s.pc := rfl
@[simp] theorem State.setBc_i (s : State) (v : Word) : (s.setBc v).i = s.i := rfl
@[simp] theorem State.setBc_r (s : State) (v : Word) : (s.setBc v).r = s.r := rfl
@[simp] theorem State.setBc_iff0 (s : State) (v : Word) : (s.setBc v).iff0 = s.iff0 := rfl
@[simp] theorem State.setBc_iff1 (s : State) (v : Word) : (s.setBc v).iff1 = s.iff1 := rfl
@[simp] theorem State.setBc_im (s : State) (v : Word) : (s.setBc v).im = s.im := rfl
@[simp] theorem State.setBc_nmiPending (s : State) (v : Word) : (s.setBc v).nmiPending = s.nmiPending := rfl
@[simp] theorem State.setBc_irqPending (s : State) (v : Word) : (s.setBc v).irqPending = s.irqPending := rfl
@[simp] theorem State.setBc_halted (s : State) (v : Word) : (s.setBc v).halted = s.halted := rfl
@[simp] theorem State.setBc_budget (s : State) (v : Word) : (s.setBc v).budget = s.budget := rfl
@[simp] theorem State.setBc_xySel (s : State) (v : Word) : (s.setBc v).xySel = s.xySel := rfl
@[simp] theorem State.setBc_disp (s : State) (v : Word) : (s.setBc v).disp = s.disp := rfl
@[simp] theorem State.setBc_pfx (s : State) (v : Word) : (s.setBc v).pfx = s.pfx := rfl
@[simp] theorem State.setBc_phase (s : State) (v : Word) : (s.setBc v).phase = s.phase := rfl
@[simp] theorem State.setBc_regions (s : State) (v : Word) : (s.setBc v).regions = s.regions := rfl
@[simp] theorem State.setBc_mem (s : State) (v : Word) : (s.setBc v).mem = s.mem := rfl
@[simp] theorem State.setBc_peripherals (s : State) (v : Word) : (s.setBc v).peripherals = s.peripherals := rfl
@[simp] theorem State.setBc_diag (s : State) (v : Word) : (s.setBc v).diag = s.diag := rfl
@[simp] theorem State.setBc_bus (s : State) (v : Word) : (s.setBc v).bus = s.bus := rfl
@[simp] theorem State.setBc_params (s : State) (v : Word) : (s.setBc v).params = s.params := rfl
@[simp] theorem State.setBc_host (s : State) (v : Word) : (s.setBc v).host = s.host := rfl
@[simp] theorem State.setBc_inputs (s : State) (v : Word) : (s.setBc v).inputs = s.inputs := rfl
@[simp] theorem State.setBc_draws (s : State) (v : Word) : (s.setBc v).draws = s.draws := rfl

@[simp] theorem State.setDe_regs (s : State) (v : Word) : (s.setDe v).regs = { s.regs with d := hiByte v, e := loByte v } := rfl
@[simp] theorem State.setDe_shadow (s : State) (v : Word) : (s.setDe v).shadow = s.shadow := rfl
@[simp] theorem State.setDe_ix (s : State) (v : Word) : (s.setDe v).ix = s.ix := rfl
@[simp] theorem State.setDe_iy (s : State) (v : Word) : (s.setDe v).iy = s.iy := rfl
@[simp] theorem State.setDe_sp (s : State) (v : Word) : (s.setDe v).sp = s.sp := rfl
@[simp] theorem State.setDe_pc (s : State) (v : Word) : (s.setDe v).pc = s.pc := rfl
@[simp] theorem State.setDe_i (s : State) (v : Word) : (s.setDe v).i = s.i := rfl
@[simp] theorem State.setDe_r (s : State) (v : Word) : (s.setDe v).r = s.r := rfl
@[simp] theorem State.setDe_iff0 (s : State) (v : Word) : (s.setDe v).iff0 = s.iff0 := rfl
@[simp] theorem State.setDe_iff1 (s : State) (v : Word) : (s.setDe v).iff1 = s.iff1 := rfl
@[simp] theorem State.setDe_im (s : State) (v : Word) : (s.setDe v).im = s.im := rfl
@[simp] theorem State.setDe_nmiPending (s : State) (v : Word) : (s.setDe v).nmiPending = s.nmiPending := rfl
@[simp] theorem State.setDe_irqPending (s : State) (v : Word) : (s.setDe v).irqPending = s.irqPending := rfl
@[simp] theorem State.setDe_halted (s : State) (v : Word) : (s.setDe v).halted = s.halted := rfl
@[simp] theorem State.setDe_budget (s : State) (v : Word) : (s.setDe v).budget = s.budget := rfl
@[simp] theorem State.setDe_xySel (s : State) (v : Word) : (s.setDe v).xySel = s.xySel := rfl
@[simp] theorem State.setDe_disp (s : State) (v : Word) : (s.setDe v).disp = s.disp := rfl
@[simp] theorem State.setDe_pfx (s : State) (v : Word) : (s.setDe v).pfx = s.pfx := rfl
@[simp] theorem State.setDe_phase (s : State) (v : Word) : (s.setDe v).phase = s.phase := rfl
@[simp] theorem State.setDe_regions (s : State) (v : Word) : (s.setDe v).regions = s.regions := rfl
@[simp] theorem State.setDe_mem (s : State) (v : Word) : (s.setDe v).mem = s.mem := rfl
@[simp] theorem State.setDe_peripherals (s : State) (v : Word) : (s.setDe v).peripherals = s.peripherals := rfl
@[simp] theorem State.setDe_diag (s : State) (v : Word) : (s.setDe v).diag = s.diag := rfl
@[simp] theorem State.setDe_bus (s : State) (v : Word) : (s.setDe v).bus = s.bus := rfl
@[simp] theorem State.setDe_params (s : State) (v : Word) : (s.setDe v).params = s.params := rfl
@[simp] theorem State.setDe_host (s : State) (v : Word) : (s.setDe v).host = s.host := rfl
@[simp] theorem State.setDe_inputs (s : State) (v : Word) : (s.setDe v).inputs = s.inputs := rfl
@[simp] theorem State.setDe_draws (s : State) (v : Word) : (s.setDe v).draws = s.draws := rfl

@[simp] theorem State.setHl_regs (s : State) (v : Word) : (s.setHl v).regs = { s.regs with h := hiByte v, l := loByte v } := rfl
@[simp] theorem State.setHl_shadow (s : State) (v : Word) : (s.setHl v).shadow = s.shadow := rfl
@[simp] theorem State.setHl_ix (s : State) (v : Word) : (s.setHl v).ix = s.ix := rfl
@[simp] theorem State.setHl_iy (s : State) (v : Word) : (s.setHl v).iy = s.iy := rfl
@[simp] theorem State.setHl_sp (s : State) (v : Word) : (s.setHl v).sp = s.sp := rfl
@[simp] theorem State.setHl_pc (s : State) (v : Word) : (s.setHl v).pc = s.pc := rfl
@[simp] theorem State.setHl_i (s : State) (v : Word) : (s.setHl v).i = s.i := rfl
@[simp] theorem State.setHl_r (s : State) (v : Word) : (s.setHl v).r = s.r := rfl
@[simp] theorem State.setHl_iff0 (s : State) (v : Word) : (s.setHl v).iff0 = s.iff0 := rfl
@[simp] theorem State.setHl_iff1 (s : State) (v : Word) : (s.setHl v).iff1 = s.iff1 := rfl
@[simp] theorem State.setHl_im (s : State) (v : Word) : (s.setHl v).im = s.im := rfl
@[simp] theorem State.setHl_nmiPending (s : State) (v : Word) : (s.setHl v).nmiPending = s.nmiPending := rfl
@[simp] theorem State.setHl_irqPending (s : State) (v : Word) : (s.setHl v).irqPending = s.irqPending := rfl
@[simp] theorem State.setHl_halted (s : State) (v : Word) : (s.setHl v).halted = s.halted := rfl
@[simp] theorem State.setHl_budget (s : State) (v : Word) : (s.setHl v).budget = s.budget := rfl
@[simp] theorem State.setHl_xySel (s : State) (v : Word) : (s.setHl v).xySel = s.xySel := rfl
@[simp] theorem State.setHl_disp (s : State) (v : Word) : (s.setHl v).disp = s.disp := rfl
@[simp] theorem State.setHl_pfx (s : State) (v : Word) : (s.setHl v).pfx = s.pfx := rfl
@[simp] theorem State.setHl_phase (s : State) (v : Word) : (s.setHl v).phase = s.phase := rfl
@[simp] theorem State.setHl_regions (s : State) (v : Word) : (s.setHl v).regions = s.regions := rfl
@[simp] theorem State.setHl_mem (s : State) (v : Word) : (s.setHl v).mem = s.mem := rfl
@[simp] theorem State.setHl_peripherals (s : State) (v : Word) : (s.setHl v).peripherals = s.peripherals := rfl
@[simp] theorem State.setHl_diag (s : State) (v : Word) : (s.setHl v).diag = s.diag := rfl
@[simp] theorem State.setHl_bus (s : State) (v : Word) : (s.setHl v).bus = s.bus := rfl
@[simp] theorem State.setHl_params (s : State) (v : Word) : (s.setHl v).params = s.params := rfl
@[simp] theorem State.setHl_host (s : State) (v : Word) : (s.setHl v).host = s.host := rfl
@[simp] theorem State.setHl_inputs (s : State) (v : Word) : (s.setHl v).inputs = s.inputs := rfl
@[simp] theorem State.setHl_draws (s : State) (v : Word) : (s.setHl v).draws = s.draws := rfl

@[simp] theorem State.setSp_regs (s : State) (v : Word) : (s.setSp v).regs = s.regs := rfl
@[simp] theorem State.setSp_shadow (s : State) (v : Word) : (s.setSp v).shadow = s.shadow := rfl
@[simp] theorem State.setSp_ix (s : State) (v : Word) : (s.setSp v).ix = s.ix := rfl
@[simp] theorem State.setSp_iy (s : State) (v : Word) : (s.setSp v).iy = s.iy := rfl
@[simp] theorem State.setSp_sp (s : State) (v : Word) : (s.setSp v).sp = v := rfl
@[simp] theorem State.setSp_pc (s : State) (v : Word) : (s.setSp v).pc = s.pc := rfl
@[simp] theorem State.setSp_i (s : State) (v : Word) : (s.setSp v).i = s.i := rfl
@[simp] theorem State.setSp_r (s : State) (v : Word) : (s.setSp v).r = s.r := rfl
@[simp] theorem State.setSp_iff0 (s : State) (v : Word) : (s.setSp v).iff0 = s.iff0 := rfl
@[simp] theorem State.setSp_iff1 (s : State) (v : Word) : (s.setSp v).iff1 = s.iff1 := rfl
@[simp] theorem State.setSp_im (s : State) (v : Word) : (s.setSp v).im = s.im := rfl
@[simp] theorem State.setSp_nmiPending (s : State) (v : Word) : (s.setSp v).nmiPending = s.nmiPending := rfl
@[simp] theorem State.setSp_irqPending (s : State) (v : Word) : (s.setSp v).irqPending = s.irqPending := rfl
@[simp] theorem State.setSp_halted (s : State) (v : Word) : (s.setSp v).halted = s.halted := rfl
@[simp] theorem State.setSp_budget (s : State) (v : Word) : (s.setSp v).budget = s.budget := rfl
@[simp] theorem State.setSp_xySel (s : State) (v : Word) : (s.setSp v).xySel = s.xySel := rfl
@[simp] theorem State.setSp_disp (s : State) (v : Word) : (s.setSp v).disp = s.disp := rfl
@[simp] theorem State.setSp_pfx (s : State) (v : Word) : (s.setSp v).pfx = s.pfx := rfl
@[simp] theorem State.setSp_phase (s : State) (v : Word) : (s.setSp v).phase = s.phase := rfl
@[simp] theorem State.setSp_regions (s : State) (v : Word) : (s.setSp v).regions = s.regions := rfl
@[simp] theorem State.setSp_mem (s : State) (v : Word) : (s.setSp v).mem = s.mem := rfl
@[simp] theorem State.setSp_peripherals (s : State) (v : Word) : (s.setSp v).peripherals = s.peripherals := rfl
@[simp] theorem State.setSp_diag (s : State) (v : Word) : (s.setSp v).diag = s.diag := rfl
@[simp] theorem State.setSp_bus (s : State) (v : Word) : (s.setSp v).bus = s.bus := rfl
@[simp] theorem State.setSp_params (s : State) (v : Word) : (s.setSp v).params = s.params := rfl
@[simp] theorem State.setSp_host (s : State) (v : Word) : (s.setSp v).host = s.host := rfl
@[simp] theorem State.setSp_inputs (s : State) (v : Word) : (s.setSp v).inputs = s.inputs := rfl
@[simp] theorem State.setSp_draws (s : State) (v : Word) : (s.setSp v).draws = s.draws := rfl

@[simp] theorem State.setPc_regs (s : State) (v : Word) : (s.setPc v).regs = s.regs := rfl
@[simp] theorem State.setPc_shadow (s : State) (v : Word) : (s.setPc v).shadow = s.shadow := rfl
@[simp] theorem State.setPc_ix (s : State) (v : Word) : (s.setPc v).ix = s.ix := rfl
@[simp] theorem State.setPc_iy (s : State) (v : Word) : (s.setPc v).iy = s.iy := rfl
@[simp] theorem State.setPc_sp (s : State) (v : Word) : (s.setPc v).sp = s.sp := rfl
@[simp] theorem State.setPc_pc (s : State) (v : Word) : (s.setPc v).pc = v := rfl
@[simp] theorem State.setPc_i (s : State) (v : Word) : (s.setPc v).i = s.i := rfl
@[simp] theorem State.setPc_r (s : State) (v : Word) : (s.setPc v).r = s.r := rfl
@[simp] theorem State.setPc_iff0 (s : State) (v : Word) : (s.setPc v).iff0 = s.iff0 := rfl
@[simp] theorem State.setPc_iff1 (s : State) (v : Word) : (s.setPc v).iff1 = s.iff1 := rfl
@[simp] theorem State.setPc_im (s : State) (v : Word) : (s.setPc v).im = s.im := rfl
@[simp] theorem State.setPc_nmiPending (s : State) (v : Word) : (s.setPc v).nmiPending = s.nmiPending := rfl
@[simp] theorem State.setPc_irqPending (s : State) (v : Word) : (s.setPc v).irqPending = s.irqPending := rfl
@[simp] theorem State.setPc_halted (s : State) (v : Word) : (s.setPc v).halted = s.halted := rfl
@[simp] theorem State.setPc_budget (s : State) (v : Word) : (s.setPc v).budget = s.budget := rfl
@[simp] theorem State.setPc_xySel (s : State) (v : Word) : (s.setPc v).xySel = s.xySel := rfl
@[simp] theorem State.setPc_disp (s : State) (v : Word) : (s.setPc v).disp = s.disp := rfl
@[simp] theorem State.setPc_pfx (s : State) (v : Word) : (s.setPc v).pfx = s.pfx := rfl
@[simp] theorem State.setPc_phase (s : State) (v : Word) : (s.setPc v).phase = s.phase := rfl
@[simp] theorem State.setPc_regions (s : State) (v : Word) : (s.setPc v).regions = s.regions := rfl
@[simp] theorem State.setPc_mem (s : State) (v : Word) : (s.setPc v).mem = s.mem := rfl
@[simp] theorem State.setPc_peripherals (s : State) (v : Word) : (s.setPc v).peripherals = s.peripherals := rfl
@[simp] theorem State.setPc_diag (s : State) (v : Word) : (s.setPc v).diag = s.diag := rfl
@[simp] theorem State.setPc_bus (s : State) (v : Word) : (s.setPc v).bus = s.bus := rfl
@[simp] theorem State.setPc_params (s : State) (v : Word) : (s.setPc v).params = s.params := rfl
@[simp] theorem State.setPc_host (s : State) (v : Word) : (s.setPc v).host = s.host := rfl
@[simp] theorem State.setPc_inputs (s : State) (v : Word) : (s.setPc v).inputs = s.inputs := rfl
@[simp] theorem State.setPc_draws (s : State) (v : Word) : (s.setPc v).draws = s.draws := rfl

@[simp] theorem State.select_regs (s : State) (x : XySel) (d : Byte) : (s.select x d).regs = s.regs := rfl
@[simp] theorem State.select_shadow (s : State) (x : XySel) (d : Byte) : (s.select x d).shadow = s.shadow := rfl
@[simp] theorem State.select_ix (s : State) (x : XySel) (d : Byte) : (s.select x d).ix = s.ix := rfl
@[simp] theorem State.select_iy (s : State) (x : XySel) (d : Byte) : (s.select x d).iy = s.iy := rfl
@[simp] theorem State.select_sp (s : State) (x : XySel) (d : Byte) : (s.select x d).sp = s.sp := rfl
@[simp] theorem State.select_pc (s : State) (x : XySel) (d : Byte) : (s.select x d).pc = s.pc := rfl
@[simp] theorem State.select_i (s : State) (x : XySel) (d : Byte) : (s.select x d).i = s.i := rfl
@[simp] theorem State.select_r (s : State) (x : XySel) (d : Byte) : (s.select x d).r = s.r := rfl
@[simp] theorem State.select_iff0 (s : State) (x : XySel) (d : Byte) : (s.select x d).iff0 = s.iff0 := rfl
@[simp] theorem State.select_iff1 (s : State) (x : XySel) (d : Byte) : (s.select x d).iff1 = s.iff1 := rfl
@[simp] theorem State.select_im (s : State) (x : XySel) (d : Byte) : (s.select x d).im = s.im := rfl
@[simp] theorem State.select_nmiPending (s : State) (x : XySel) (d : Byte) : (s.select x d).nmiPending = s.nmiPending := rfl
@[simp] theorem State.select_irqPending (s : State) (x : XySel) (d : Byte) : (s.select x d).irqPending = s.irqPending := rfl
@[simp] theorem State.select_halted (s : State) (x : XySel) (d : Byte) : (s.select x d).halted = s.halted := rfl
@[simp] theorem State.select_budget (s : State) (x : XySel) (d : Byte) : (s.select x d).budget = s.budget := rfl
@[simp] theorem State.select_xySel (s : State) (x : XySel) (d : Byte) : (s.select x d).xySel = x := rfl
@[simp] theorem State.select_disp (s : State) (x : XySel) (d : Byte) : (s.select x d).disp = d := rfl
@[simp] theorem State.select_pfx (s : State) (x : XySel) (d : Byte) : (s.select x d).pfx = s.pfx := rfl
@[simp] theorem State.select_phase (s : State) (x : XySel) (d : Byte) : (s.select x d).phase = s.phase := rfl
@[simp] theorem State.select_regions (s : State) (x : XySel) (d : Byte) : (s.select x d).regions = s.regions := rfl
@[simp] theorem State.select_mem (s : State) (x : XySel) (d : Byte) : (s.select x d).mem = s.mem := rfl
@[simp] theorem State.select_peripherals (s : State) (x : XySel) (d : Byte) : (s.select x d).peripherals = s.peripherals := rfl
@[simp] theorem State.select_diag (s : State) (x : XySel) (d : Byte) : (s.select x d).diag = s.diag := rfl
@[simp] theorem State.select_bus (s : State) (x : XySel) (d : Byte) : (s.select x d).bus = s.bus := rfl
@[simp] theorem State.select_params (s : State) (x : XySel) (d : Byte) : (s.select x d).params = s.params := rfl
@[simp] theorem State.select_host (s : State) (x : XySel) (d : Byte) : (s.select x d).host = s.host := rfl
@[simp] theorem State.select_inputs (s : State) (x : XySel) (d : Byte) : (s.select x d).inputs = s.inputs := rfl
@[simp] theorem State.select_draws (s : State) (x : XySel) (d : Byte) : (s.select x d).draws = s.draws := rfl

@[simp] theorem State.incR_regs (s : State) (n : Nat) : (s.incR n).regs = s.regs := rfl
@[simp] theorem State.incR_shadow (s : State) (n : Nat) : (s.incR n).shadow = s.shadow := rfl
@[simp] theorem State.incR_ix (s : State) (n : Nat) : (s.incR n).ix = s.ix := rfl
@[simp] theorem State.incR_iy (s : State) (n : Nat) : (s.incR n).iy = s.iy := rfl
@[simp] theorem State.incR_sp (s : State) (n : Nat) : (s.incR n).sp = s.sp := rfl
@[simp] theorem State.incR_pc (s : State) (n : Nat) : (s.incR n).pc = s.pc := rfl
@[simp] theorem State.incR_i (s : State) (n : Nat) : (s.incR n).i = s.i := rfl
@[simp] theorem State.incR_r (s : State) (n : Nat) : (s.incR n).r = countR s.r n := rfl
@[simp] theorem State.incR_iff0 (s : State) (n : Nat) : (s.incR n).iff0 = s.iff0 := rfl
@[simp] theorem State.incR_iff1 (s : State) (n : Nat) : (s.incR n).iff1 = s.iff1 := rfl
@[simp] theorem State.incR_im (s : State) (n : Nat) : (s.incR n).im = s.im := rfl
@[simp] theorem State.incR_nmiPending (s : State) (n : Nat) : (s.incR n).nmiPending = s.nmiPending := rfl
@[simp] theorem State.incR_irqPending (s : State) (n : Nat) : (s.incR n).irqPending = s.irqPending := rfl
@[simp] theorem State.incR_halted (s : State) (n : Nat) : (s.incR n).halted = s.halted := rfl
@[simp] theorem State.incR_budget (s : State) (n : Nat) : (s.incR n).budget = s.budget := rfl
@[simp] theorem State.incR_xySel (s : State) (n : Nat) : (s.incR n).xySel = s.xySel := rfl
@[simp] theorem State.incR_disp (s : State) (n : Nat) : (s.incR n).disp = s.disp := rfl
@[simp] theorem State.incR_pfx (s : State) (n : Nat) : (s.incR n).pfx = s.pfx := rfl
@[simp] theorem State.incR_phase (s : State) (n : Nat) : (s.incR n).phase = s.phase := rfl
@[simp] theorem State.incR_regions (s : State) (n : Nat) : (s.incR n).regions = s.regions := rfl
@[simp] theorem State.incR_mem (s : State) (n : Nat) : (s.incR n).mem = s.mem := rfl
@[simp] theorem State.incR_peripherals (s : State) (n : Nat) : (s.incR n).peripherals = s.peripherals := rfl
@[simp] theorem State.incR_diag (s : State) (n : Nat) : (s.incR n).diag = s.diag := rfl
@[simp] theorem State.incR_bus (s : State) (n : Nat) : (s.incR n).bus = s.bus := rfl
@[simp] theorem State.incR_params (s : State) (n : Nat) : (s.incR n).params = s.params := rfl
@[simp] theorem State.incR_host (s : State) (n : Nat) : (s.incR n).host = s.host := rfl
@[simp] theorem State.incR_inputs (s : State) (n : Nat) : (s.incR n).inputs = s.inputs := rfl
@[simp] theorem State.incR_draws (s : State) (n : Nat) : (s.incR n).draws = s.draws := rfl

@[simp] theorem State.charge_regs (s : State) (n : Nat) : (s.charge n).regs = s.regs := rfl
@[simp] theorem State.charge_shadow (s : State) (n : Nat) : (s.charge n).shadow = s.shadow := rfl
@[simp] theorem State.charge_ix (s : State) (n : Nat) : (s.charge n).ix = s.ix := rfl
@[simp] theorem State.charge_iy (s : State) (n : Nat) : (s.charge n).iy = s.iy := rfl
@[simp] theorem State.charge_sp (s : State) (n : Nat) : (s.charge n).sp = s.sp := rfl
@[simp] theorem State.charge_pc (s : State) (n : Nat) : (s.charge n).pc = s.pc := rfl
@[simp] theorem State.charge_i (s : State) (n : Nat) : (s.charge n).i = s.i := rfl
@[simp] theorem State.charge_r (s : State) (n : Nat) : (s.charge n).r = s.r := rfl
@[simp] theorem State.charge_iff0 (s : State) (n : Nat) : (s.charge n).iff0 = s.iff0 := rfl
@[simp] theorem State.charge_iff1 (s : State) (n : Nat) : (s.charge n).iff1 = s.iff1 := rfl
@[simp] theorem State.charge_im (s : State) (n : Nat) : (s.charge n).im = s.im := rfl
@[simp] theorem State.charge_nmiPending (s : State) (n : Nat) : (s.charge n).nmiPending = s.nmiPending := rfl
@[simp] theorem State.charge_irqPending (s : State) (n : Nat) : (s.charge n).irqPending = s.irqPending := rfl
@[simp] theorem State.charge_halted (s : State) (n : Nat) : (s.charge n).halted = s.halted := rfl
@[simp] theorem State.charge_budget (s : State) (n : Nat) : (s.charge n).budget = s.budget - n := rfl
@[simp] theorem State.charge_xySel (s : State) (n : Nat) : (s.charge n).xySel = s.xySel := rfl
@[simp] theorem State.charge_disp (s : State) (n : Nat) : (s.charge n).disp = s.disp := rfl
@[simp] theorem State.charge_pfx (s : State) (n : Nat) : (s.charge n).pfx = s.pfx := rfl
@[simp] theorem State.charge_phase (s : State) (n : Nat) : (s.charge n).phase = s.phase := rfl
@[simp] theorem State.charge_regions (s : State) (n : Nat) : (s.charge n).regions = s.regions := rfl
@[simp] theorem State.charge_mem (s : State) (n : Nat) : (s.charge n).mem = s.mem := rfl
@[simp] theorem State.charge_peripherals (s : State) (n : Nat) : (s.charge n).peripherals = s.peripherals := rfl
@[simp] theorem State.charge_diag (s : State) (n : Nat) : (s.charge n).diag = s.diag := rfl
@[simp] theorem State.charge_bus (s : State) (n : Nat) : (s.charge n).bus = s.bus := rfl
@[simp] theorem State.charge_params (s : State) (n : Nat) : (s.charge n).params = s.params := rfl
@[simp] theorem State.charge_host (s : State) (n : Nat) : (s.charge n).host = s.host := rfl
@[simp] theorem State.charge_inputs (s : State) (n : Nat) : (s.charge n).inputs = s.inputs := rfl
@[simp] theorem State.charge_draws (s : State) (n : Nat) : (s.charge n).draws = s.draws := rfl

@[simp] theorem State.atBoundary_regs (s : State) : (s.atBoundary).regs = s.regs := rfl
@[simp] theorem State.atBoundary_shadow (s : State) : (s.atBoundary).shadow = s.shadow := rfl
@[simp] theorem State.atBoundary_ix (s : State) : (s.atBoundary).ix = s.ix := rfl
@[simp] theorem State.atBoundary_iy (s : State) : (s.atBoundary).iy = s.iy := rfl
@[simp] theorem State.atBoundary_sp (s : State) : (s.atBoundary).sp = s.sp := rfl
@[simp] theorem State.atBoundary_pc (s : State) : (s.atBoundary).pc = s.pc := rfl
@[simp] theorem State.atBoundary_i (s : State) : (s.atBoundary).i = s.i := rfl
@[simp] theorem State.atBoundary_r (s : State) : (s.atBoundary).r = s.r := rfl
@[simp] theorem State.atBoundary_iff0 (s : State) : (s.atBoundary).iff0 = s.iff0 := rfl
@[simp] theorem State.atBoundary_iff1 (s : State) : (s.atBoundary).iff1 = s.iff1 := rfl
@[simp] theorem State.atBoundary_im (s : State) : (s.atBoundary).im = s.im := rfl
@[simp] theorem State.atBoundary_nmiPending (s : State) : (s.atBoundary).nmiPending = s.nmiPending := rfl
@[simp] theorem State.atBoundary_irqPending (s : State) : (s.atBoundary).irqPending = s.irqPending := rfl
@[simp] theorem State.atBoundary_halted (s : State) : (s.atBoundary).halted = s.halted := rfl
@[simp] theorem State.atBoundary_budget (s : State) : (s.atBoundary).budget = s.budget := rfl
@[simp] theorem State.atBoundary_xySel (s : State) : (s.atBoundary).xySel = .hl := rfl
@[simp] theorem State.atBoundary_disp (s : State) : (s.atBoundary).disp = 0x00#8 := rfl
@[simp] theorem State.atBoundary_pfx (s : State) : (s.atBoundary).pfx = .none := rfl
@[simp] theorem State.atBoundary_phase (s : State) : (s.atBoundary).phase = s.phase := rfl
@[simp] theorem State.atBoundary_regions (s : State) : (s.atBoundary).regions = s.regions := rfl
@[simp] theorem State.atBoundary_mem (s : State) : (s.atBoundary).mem = s.mem := rfl
@[simp] theorem State.atBoundary_peripherals (s : State) : (s.atBoundary).peripherals = s.peripherals := rfl
@[simp] theorem State.atBoundary_diag (s : State) : (s.atBoundary).diag = s.diag := rfl
@[simp] theorem State.atBoundary_bus (s : State) : (s.atBoundary).bus = s.bus := rfl
@[simp] theorem State.atBoundary_params (s : State) : (s.atBoundary).params = s.params := rfl
@[simp] theorem State.atBoundary_host (s : State) : (s.atBoundary).host = s.host := rfl
@[simp] theorem State.atBoundary_inputs (s : State) : (s.atBoundary).inputs = s.inputs := rfl
@[simp] theorem State.atBoundary_draws (s : State) : (s.atBoundary).draws = s.draws := rfl

@[simp] theorem State.raiseUnknown_regs (s : State) (j : Instr) : (s.raiseUnknown j).regs = s.regs := rfl
@[simp] theorem State.raiseUnknown_shadow (s : State) (j : Instr) : (s.raiseUnknown j).shadow = s.shadow := rfl
@[simp] theorem State.raiseUnknown_ix (s : State) (j : Instr) : (s.raiseUnknown j).ix = s.ix := rfl
@[simp] theorem State.raiseUnknown_iy (s : State) (j : Instr) : (s.raiseUnknown j).iy = s.iy := rfl
@[simp] theorem State.raiseUnknown_sp (s : State) (j : Instr) : (s.raiseUnknown j).sp = s.sp := rfl
@[simp] theorem State.raiseUnknown_pc (s : State) (j : Instr) : (s.raiseUnknown j).pc = s.pc := rfl
@[simp] theorem State.raiseUnknown_i (s : State) (j : Instr) : (s.raiseUnknown j).i = s.i := rfl
@[simp] theorem State.raiseUnknown_r (s : State) (j : Instr) : (s.raiseUnknown j).r = s.r := rfl
@[simp] theorem State.raiseUnknown_iff0 (s : State) (j : Instr) : (s.raiseUnknown j).iff0 = s.iff0 := rfl
@[simp] theorem State.raiseUnknown_iff1 (s : State) (j : Instr) : (s.raiseUnknown j).iff1 = s.iff1 := rfl
@[simp] theorem State.raiseUnknown_im (s : State) (j : Instr) : (s.raiseUnknown j).im = s.im := rfl
@[simp] theorem State.raiseUnknown_nmiPending (s : State) (j : Instr) : (s.raiseUnknown j).nmiPending = s.nmiPending := rfl
@[simp] theorem State.raiseUnknown_irqPending (s : State) (j : Instr) : (s.raiseUnknown j).irqPending = s.irqPending := rfl
@[simp] theorem State.raiseUnknown_halted (s : State) (j : Instr) : (s.raiseUnknown j).halted = true := rfl
@[simp] theorem State.raiseUnknown_budget (s : State) (j : Instr) : (s.raiseUnknown j).budget = s.budget := rfl
@[simp] theorem State.raiseUnknown_xySel (s : State) (j : Instr) : (s.raiseUnknown j).xySel = s.xySel := rfl
@[simp] theorem State.raiseUnknown_disp (s : State) (j : Instr) : (s.raiseUnknown j).disp = s.disp := rfl
@[simp] theorem State.raiseUnknown_pfx (s : State) (j : Instr) : (s.raiseUnknown j).pfx = s.pfx := rfl
@[simp] theorem State.raiseUnknown_phase (s : State) (j : Instr) : (s.raiseUnknown j).phase = s.phase := rfl
@[simp] theorem State.raiseUnknown_regions (s : State) (j : Instr) : (s.raiseUnknown j).regions = s.regions := rfl
@[simp] theorem State.raiseUnknown_mem (s : State) (j : Instr) : (s.raiseUnknown j).mem = s.mem := rfl
@[simp] theorem State.raiseUnknown_peripherals (s : State) (j : Instr) : (s.raiseUnknown j).peripherals = s.peripherals := rfl
@[simp] theorem State.raiseUnknown_diag (s : State) (j : Instr) : (s.raiseUnknown j).diag = unknownEvent j :: s.diag := rfl
@[simp] theorem State.raiseUnknown_bus (s : State) (j : Instr) : (s.raiseUnknown j).bus = s.bus := rfl
@[simp] theorem State.raiseUnknown_params (s : State) (j : Instr) : (s.raiseUnknown j).params = s.params := rfl
@[simp] theorem State.raiseUnknown_host (s : State) (j : Instr) : (s.raiseUnknown j).host = s.host := rfl
@[simp] theorem State.raiseUnknown_inputs (s : State) (j : Instr) : (s.raiseUnknown j).inputs = s.inputs := rfl
@[simp] theorem State.raiseUnknown_draws (s : State) (j : Instr) : (s.raiseUnknown j).draws = s.draws := rfl

end Sys2Proof.Machine
end

