-- ==== Sys2Proof/Laws/Memory.lean ====
section
/-! SUPPORT. Laws of the buffers' canonical list and of the memory bus: a read after a write, the canonical form, and the
region lookup (spec/20_memory.md R42 to R49). -/

namespace Sys2Proof.Machine

/-! ## The canonical list -/

/-- A write leaves every other key alone. -/
theorem memRead_memWrite_ne (m : List Host.Cell) {j k : Nat} (v : Byte) (h : j ≠ k) :
    memRead (memWrite m k v) j = memRead m j := by
  induction m with
  | nil => simp only [memWrite]; split <;> simp [memRead, Ne.symm h]
  | cons c m ih =>
    obtain ⟨a, b⟩ := c
    simp only [memWrite]
    split
    · split
      · rfl
      · simp [memRead, Ne.symm h]
    · split
      · next _ hk => subst hk; split <;> simp [memRead, Ne.symm h]
      · simp only [memRead, ih]

/-- Below the list's first key everything is blank. -/
theorem memRead_below {m : List Host.Cell} {lo k : Nat} (h : memWfFrom lo m = true) (hk : k < lo) :
    memRead m k = blankByte := by
  induction m generalizing lo with
  | nil => rfl
  | cons c m ih =>
    obtain ⟨a, b⟩ := c
    simp only [memWfFrom, Bool.and_eq_true, decide_eq_true_eq] at h
    simp only [memRead]
    rw [if_neg (by omega)]
    exact ih h.2 (by omega)

/-- The canonical form from a later key on. -/
theorem memWfFrom_mono {m : List Host.Cell} {lo lo' : Nat} (h : memWfFrom lo m = true) (hl : lo' ≤ lo) :
    memWfFrom lo' m = true := by
  cases m with
  | nil => rfl
  | cons c m =>
    obtain ⟨a, b⟩ := c
    simp only [memWfFrom, Bool.and_eq_true, decide_eq_true_eq] at h ⊢
    exact ⟨⟨by omega, h.1.2⟩, h.2⟩

/-- A read after a write to the same key gives the value written. -/
theorem memRead_memWrite_same {m : List Host.Cell} {lo : Nat} (k : Nat) (v : Byte) (h : memWfFrom lo m = true) :
    memRead (memWrite m k v) k = v := by
  induction m generalizing lo with
  | nil => simp only [memWrite]; split <;> simp_all [memRead]
  | cons c m ih =>
    obtain ⟨a, b⟩ := c
    have h' := h
    simp only [memWfFrom, Bool.and_eq_true, decide_eq_true_eq] at h'
    simp only [memWrite]
    split
    · next hlt =>
      split
      · next hv =>
        simp only [memRead]
        rw [if_neg (by omega), memRead_below h'.2 (by omega), hv]
      · simp [memRead]
    · split
      · next _ hk =>
        subst hk
        split
        · next hv => rw [memRead_below h'.2 (by omega), hv]
        · simp [memRead]
      · next h1 h2 =>
        simp only [memRead]
        rw [if_neg (by omega)]
        exact ih h'.2

/-- A write keeps the canonical form. -/
theorem memWfFrom_memWrite {m : List Host.Cell} {lo k : Nat} (v : Byte) (h : memWfFrom lo m = true) (hk : lo ≤ k) :
    memWfFrom lo (memWrite m k v) = true := by
  induction m generalizing lo with
  | nil => simp only [memWrite]; split <;> simp_all [memWfFrom]
  | cons c m ih =>
    obtain ⟨a, b⟩ := c
    have h' := h
    simp only [memWfFrom, Bool.and_eq_true, decide_eq_true_eq] at h'
    simp only [memWrite]
    split
    · next hlt =>
      split
      · exact h
      · next hv =>
        simp only [memWfFrom, Bool.and_eq_true, decide_eq_true_eq, bne_iff_ne, ne_eq]
        refine ⟨⟨hk, hv⟩, ⟨by omega, ?_⟩, h'.2⟩
        simpa using h'.1.2
    · split
      · next _ hka =>
        subst hka
        split
        · exact memWfFrom_mono h'.2 (by omega)
        · next hv => simp [memWfFrom, hv, h'.2, hk]
      · next h1 h2 =>
        simp only [memWfFrom, Bool.and_eq_true, decide_eq_true_eq]
        exact ⟨h'.1, ih h'.2 (by omega)⟩

theorem wf_memWrite {m : List Host.Cell} (k : Nat) (v : Byte) (h : Memory.wf m = true) :
    Memory.wf (memWrite m k v) = true :=
  memWfFrom_memWrite v h (Nat.zero_le k)

/-- A canonical memory is what its reads say: equal reads make equal lists. -/
theorem mem_ext {m m' : List Host.Cell} {lo : Nat} (h : memWfFrom lo m = true) (h' : memWfFrom lo m' = true)
    (he : ∀ k, memRead m k = memRead m' k) : m = m' := by
  induction m generalizing lo m' with
  | nil =>
    cases m' with
    | nil => rfl
    | cons c m' =>
      obtain ⟨a, b⟩ := c
      simp only [memWfFrom, Bool.and_eq_true, bne_iff_ne, ne_eq] at h'
      have := he a
      simp only [memRead, if_pos] at this
      exact absurd this.symm h'.1.2
  | cons c m ih =>
    obtain ⟨a, b⟩ := c
    have w := h
    simp only [memWfFrom, Bool.and_eq_true, bne_iff_ne, ne_eq, decide_eq_true_eq] at h
    cases m' with
    | nil =>
      have := he a
      simp only [memRead, if_pos] at this
      exact absurd this h.1.2
    | cons c' m' =>
      obtain ⟨a', b'⟩ := c'
      have w' := h'
      simp only [memWfFrom, Bool.and_eq_true, bne_iff_ne, ne_eq, decide_eq_true_eq] at h'
      have haa : a = a' := by
        rcases Nat.lt_trichotomy a a' with hl | hl | hl
        · have := he a
          simp only [memRead, if_pos] at this
          rw [if_neg (by omega), memRead_below h'.2 (by omega)] at this
          exact absurd this h.1.2
        · exact hl
        · have := he a'
          simp only [memRead, if_pos] at this
          rw [if_neg (by omega), memRead_below h.2 (by omega)] at this
          exact absurd this.symm h'.1.2
      subst haa
      have hb : b = b' := by simpa [memRead] using he a
      subst hb
      rw [ih h.2 h'.2 fun k => ?_]
      by_cases hk : a = k
      · subst hk
        rw [memRead_below h.2 (by omega), memRead_below h'.2 (by omega)]
      · have := he k
        simpa [memRead, hk] using this

/-! ## The region lookup -/

theorem Region.offset_toNat (g : Region) (a : Word) : g.offset a = (a.toNat + 65536 - g.base.toNat) % 65536 := by
  have := g.base.isLt; have := a.isLt
  simp only [Region.offset, BitVec.toNat_sub]
  omega

theorem Region.offset_lt (g : Region) (a : Word) : g.offset a < 65536 := (a - g.base).isLt

/-- What a lookup finds: the first region that matches, its key and its kind (R44). -/
theorem findRegion_some {gs : List Region} {n : Nat} {a : Word} {key : Nat} {kind : RegionKind}
    (h : findRegion gs n a = some (key, kind)) :
    ∃ j g, gs[j]? = some g ∧ g.offset a < g.size ∧ key = bufferKey (n + j) (g.offset a) ∧ kind = g.kind ∧
      ∀ j' g', j' < j → gs[j']? = some g' → ¬ g'.offset a < g'.size := by
  induction gs generalizing n with
  | nil => simp [findRegion] at h
  | cons g gs ih =>
    simp only [findRegion] at h
    split at h
    · next hm =>
      simp only [Option.some.injEq, Prod.mk.injEq] at h
      exact ⟨0, g, rfl, hm, h.1.symm, h.2.symm, fun j' _ hj => absurd hj (by omega)⟩
    · next hm =>
      obtain ⟨j, g1, hg, hs, hk, hkind, hfirst⟩ := ih h
      refine ⟨j + 1, g1, by simpa using hg, hs, by rw [hk]; congr 1; omega, hkind, ?_⟩
      intro j' g' hj hg'
      cases j' with
      | zero => simp only [List.getElem?_cons_zero, Option.some.injEq] at hg'; subst hg'; exact hm
      | succ j' => exact hfirst j' g' (by omega) (by simpa using hg')

/-- A lookup that finds nothing: no region matches. -/
theorem findRegion_none {gs : List Region} {n : Nat} {a : Word} (h : findRegion gs n a = none) :
    ∀ g ∈ gs, ¬ g.offset a < g.size := by
  induction gs generalizing n with
  | nil => simp
  | cons g gs ih =>
    simp only [findRegion] at h
    split at h
    · simp at h
    · next hm =>
      intro g' hg'
      rcases List.mem_cons.mp hg' with rfl | hg'
      · exact hm
      · exact ih h g' hg'

/-- Two addresses whose lookups give one buffer byte are one address. -/
theorem findRegion_inj {gs : List Region} {a b : Word} {key : Nat} {ka kb : RegionKind}
    (ha : findRegion gs 0 a = some (key, ka)) (hb : findRegion gs 0 b = some (key, kb)) : a = b := by
  obtain ⟨j, g, hg, _, hk, _⟩ := findRegion_some ha
  obtain ⟨j', g', hg', _, hk', _⟩ := findRegion_some hb
  have h1 := g.offset_lt a
  have h2 := g'.offset_lt b
  simp only [bufferKey] at hk hk'
  have hj : j = j' := by omega
  subst hj
  rw [hg] at hg'
  obtain rfl := Option.some.inj hg'
  have ho : g.offset a = g.offset b := by omega
  have := BitVec.eq_of_toNat_eq ho
  have h3 : a - g.base + g.base = b - g.base + g.base := by rw [this]
  simpa using h3

/-! ## Reads after writes on the bus -/

/-- What a read gives depends on the buffers, the map and the unmapped value only (R48). -/
theorem State.peek_congr {s t : State} (hm : t.mem = s.mem) (hr : t.regions = s.regions) (hp : t.params = s.params)
    (a : Word) : t.peek a = s.peek a := by
  simp only [State.peek, hm, hr, hp]

/-- A store leaves every other address alone (R45). -/
theorem State.peek_stored_ne (s : State) {a b : Word} (v : Byte) (h : b ≠ a) :
    { s with mem := s.stored a v }.peek b = s.peek b := by
  simp only [State.peek, State.stored]
  cases hb : findRegion s.regions 0 b with
  | none => rfl
  | some p =>
    obtain ⟨kb, ka⟩ := p
    simp only
    split
    · next key hk => exact memRead_memWrite_ne _ _ fun he => h (findRegion_inj (he ▸ hb) hk)
    · rfl
    · rfl

/-- A store to a read-write region is what a read there gives (R44, R45). -/
theorem State.peek_stored_rw (s : State) {a : Word} {key : Nat} (v : Byte) (h : findRegion s.regions 0 a = some (key, .rw))
    (hw : Memory.wf s.mem = true) : { s with mem := s.stored a v }.peek a = v := by
  simp only [State.peek, State.stored, h]
  exact memRead_memWrite_same key v hw

/-- A store anywhere else changes no buffer (R45). -/
theorem State.stored_dropped (s : State) {a : Word} (v : Byte) (h : ∀ key, findRegion s.regions 0 a ≠ some (key, .rw)) :
    s.stored a v = s.mem := by
  simp only [State.stored]
  split
  · next key hk => exact absurd hk (h key)
  · rfl
  · rfl

theorem State.wf_stored (s : State) (a : Word) (v : Byte) (h : Memory.wf s.mem = true) :
    Memory.wf (s.stored a v) = true := by
  simp only [State.stored]
  split
  · exact wf_memWrite _ _ h
  · exact h
  · exact h

theorem State.wf_write8 (s : State) (a : Word) (v : Byte) (h : Memory.wf s.mem = true) :
    Memory.wf (s.write8 a v).mem = true := s.wf_stored a v h

theorem State.wf_write16 (s : State) (a v : Word) (h : Memory.wf s.mem = true) :
    Memory.wf (s.write16 a v).mem = true := State.wf_write8 _ _ _ (State.wf_write8 _ _ _ h)

theorem State.wf_push16 (s : State) (v : Word) (h : Memory.wf s.mem = true) :
    Memory.wf (s.push16 v).mem = true := State.wf_write16 _ _ _ h

/-- A byte write leaves every other address alone. -/
theorem State.peek_write8_ne (s : State) {a b : Word} (v : Byte) (h : b ≠ a) : (s.write8 a v).peek b = s.peek b :=
  s.peek_stored_ne v h

/-- A word write leaves every address but two alone. -/
theorem State.peek_write16_ne (s : State) {a b : Word} (v : Word) (h : b ≠ a) (h' : b ≠ a + 1) :
    (s.write16 a v).peek b = s.peek b := by
  simp only [State.write16]
  rw [State.peek_write8_ne _ _ h', State.peek_write8_ne _ _ h]

/-- A draw changes no buffer, no region and no parameter. -/
theorem State.afterDraw_frame (s : State) :
    s.afterDraw = { s with inputs := s.afterDraw.inputs, draws := s.afterDraw.draws } := by
  simp only [State.afterDraw]
  split <;> rfl

/-- `IORead` changes the bus record, the supplied bytes and the draws, and nothing else (R55). -/
theorem State.ioRead_frame (s : State) (p : Word) :
    s.ioRead p =
      { s with bus := .ioRead p (s.ioValue p) (s.readServer p) :: s.bus, inputs := (s.ioRead p).inputs,
               draws := (s.ioRead p).draws } := by
  simp only [State.ioRead, State.ioValue]
  cases hr : s.readServer p with
  | none => rfl
  | some k =>
    simp only [State.log]
    rw [State.afterDraw_frame]

end Sys2Proof.Machine
end

