-- ==== Sys2Proof/Laws/Host.lean ====
section
/-! SUPPORT. Laws of the host's acts on the buffers (spec/60_exceptions.md R244): what a registration and a change of a buffer
byte leave in each byte, and that both keep the canonical form. -/

namespace Sys2Proof.Machine

/-! ## A buffer placed in memory -/

/-- A placed buffer keeps the canonical form. -/
theorem wf_storeBuffer {m : List Host.Cell} (k : Nat) (bs : List Byte) (h : Memory.wf m = true) :
    Memory.wf (storeBuffer m k bs) = true := by
  induction bs generalizing m k with
  | nil => exact h
  | cons b bs ih => exact ih (k + 1) (wf_memWrite k b h)

/-- A placed buffer leaves every key below it alone. -/
theorem memRead_storeBuffer_below (m : List Host.Cell) {j k : Nat} (bs : List Byte) (h : j < k) :
    memRead (storeBuffer m k bs) j = memRead m j := by
  induction bs generalizing m k with
  | nil => rfl
  | cons b bs ih =>
    simp only [storeBuffer]
    rw [ih _ (by omega), memRead_memWrite_ne _ _ (by omega)]

/-- After a buffer is placed from `k` on, its keys read its bytes and every other key reads as before. -/
theorem memRead_storeBuffer {m : List Host.Cell} (k j : Nat) (bs : List Byte) (h : Memory.wf m = true) :
    memRead (storeBuffer m k bs) j = if k ≤ j ∧ j < k + bs.length then bs.getD (j - k) 0#8 else memRead m j := by
  induction bs generalizing m k with
  | nil =>
    rw [if_neg (by simp)]
    rfl
  | cons b bs ih =>
    simp only [storeBuffer]
    rcases Nat.lt_trichotomy j k with hj | rfl | hj
    · rw [memRead_storeBuffer_below _ _ (by omega), memRead_memWrite_ne _ _ (by omega), if_neg (by omega)]
    · rw [memRead_storeBuffer_below _ _ (by omega), memRead_memWrite_same _ _ h, if_pos (by simp)]
      simp
    · rw [ih _ (wf_memWrite k b h), memRead_memWrite_ne _ _ (by omega)]
      obtain ⟨n, rfl⟩ : ∃ n, j = k + 1 + n := ⟨j - (k + 1), by omega⟩
      have e₁ : k + 1 + n - (k + 1) = n := by omega
      have e₂ : k + 1 + n - k = n + 1 := by omega
      simp only [List.length_cons, e₁, e₂, List.getD_cons_succ]
      congr 1
      exact propext ⟨fun h => ⟨by omega, by omega⟩, fun h => ⟨by omega, by omega⟩⟩

/-! ## The acts -/

/-- A change of a buffer byte keeps the canonical form. -/
theorem State.wf_poke (s : State) (region offset : Nat) (v : Byte) (h : Memory.wf s.mem = true) :
    Memory.wf (s.poke region offset v).mem = true := by
  simp only [State.poke]
  split
  · split
    · exact wf_memWrite _ _ h
    · exact h
  · exact h

/-- A change of a buffer byte touches memory only. -/
theorem State.poke_frame (s : State) (region offset : Nat) (v : Byte) :
    s.poke region offset v = { s with mem := (s.poke region offset v).mem } := by
  simp only [State.poke]
  split
  · split <;> rfl
  · rfl

/-- A registration that is not refused: the region is the last one, its buffer's bytes are placed under its number, and
nothing else changes. -/
theorem State.addRegion_next {s t : State} {base : Word} {size : Nat} {kind : RegionKind} {buffer : List Byte}
    (h : s.addRegion base size kind buffer = .next t) :
    size ≤ 0x10000 ∧ size ≤ buffer.length ∧
    t = { s with
      regions := s.regions ++ [{ base := base, size := size, kind := kind }]
      mem := storeBuffer s.mem (bufferKey s.regions.length 0) (buffer.take size) } := by
  simp only [State.addRegion] at h
  split at h
  · simp at h
  · next hs => exact ⟨by omega, by omega, (Host.Outcome.next.inj h).symm⟩

/-- A placed byte keeps the canonical form. -/
theorem State.wf_placeByte (s : State) (a : Word) (v : Byte) (h : Memory.wf s.mem = true) :
    Memory.wf (s.placeByte a v).mem = true := by
  simp only [State.placeByte]
  split
  · exact wf_memWrite _ _ h
  · exact h

/-- Placed bytes keep the canonical form. -/
theorem State.wf_placeBytes (s : State) (a : Word) (bs : List Byte) (h : Memory.wf s.mem = true) :
    Memory.wf (s.placeBytes a bs).mem = true := by
  induction bs generalizing s a with
  | nil => exact h
  | cons b bs ih => exact ih _ _ (s.wf_placeByte a b h)

end Sys2Proof.Machine
end

