-- ==== Sys2Proof/Laws/Ops.lean ====
section
/-! SUPPORT. What each operation that answers can do, said once: the budget check, interrupt acceptance, the interrupt check,
the end of an instruction, and one step by the phase it starts in. -/

namespace Sys2Proof.Machine

/-- A sequence that answers a next state went through one. -/
theorem andThen_next {x : Answer} {f : State → Answer} {t : State} (h : andThen x f = .next t) :
    ∃ s, x = .next s ∧ f s = .next t := by
  cases x with
  | next s => exact ⟨s, rfl, h⟩
  | fault r => simp [andThen] at h
  | refused r => simp [andThen] at h

/-- The budget check passes a state on unchanged, in range. -/
theorem checkBudget_next {s t : State} (h : checkBudget s = .next t) : t = s ∧ budgetInRange s.budget = true := by
  simp only [checkBudget] at h
  split at h
  · next hb => exact ⟨(Host.Outcome.next.inj h).symm, hb⟩
  · simp at h

theorem checkBudget_inRange {s : State} (h : budgetInRange s.budget = true) : checkBudget s = .next s := by
  simp [checkBudget, h]

/-- What the end of an instruction can do. -/
theorem finish_next {i : Instr} {s t : State} (h : finish i s = .next t) :
    (i.isPrefix = true ∧ t = s) ∨ (i.isPrefix = false ∧ t = s.atBoundary ∧ budgetInRange s.budget = true) := by
  simp only [finish] at h
  cases hp : i.isPrefix with
  | true => rw [hp] at h; exact .inl ⟨rfl, (Host.Outcome.next.inj h).symm⟩
  | false =>
    rw [hp] at h
    obtain ⟨rfl, hb⟩ := checkBudget_next h
    exact .inr ⟨rfl, rfl, hb⟩

/-- The acceptance of a maskable interrupt: one entry sequence, from one of two states, to some address (R229, R232). -/
theorem acceptIrq_next {s t : State} (h : s.acceptIrq = .next t) :
    ∃ u k, (u = s.takeIrq ∨ u = s.takeIrq.afterDraw) ∧
      ((∃ pc, t = u.accept k pc) ∨ ∃ v, t = u.acceptVectored v) := by
  simp only [State.acceptIrq] at h
  split at h
  · exact ⟨_, .im1, .inl rfl, .inl ⟨_, (Host.Outcome.next.inj h).symm⟩⟩
  · exact ⟨_, .im0, .inl rfl, .inl ⟨_, (Host.Outcome.next.inj h).symm⟩⟩
  · exact ⟨_, .im2, .inl rfl, .inl ⟨_, (Host.Outcome.next.inj h).symm⟩⟩
  · split at h
    · exact ⟨_, .im0, .inr rfl, .inl ⟨_, (Host.Outcome.next.inj h).symm⟩⟩
    · simp at h
  · exact ⟨_, .im2, .inr rfl, .inr ⟨_, (Host.Outcome.next.inj h).symm⟩⟩

/-- The interrupt check accepts an NMI, accepts a maskable interrupt, or does nothing (R228). -/
theorem intCheck_next {s t : State} (h : s.intCheck = .next t) :
    (s.nmiPending = true ∧ t = s.takeNmi.accept .nmi nmiTarget) ∨
    (s.nmiPending = false ∧ s.irqPending = true ∧ s.iff0 = true ∧ s.acceptIrq = .next t) ∨ t = s := by
  simp only [State.intCheck] at h
  split at h
  · next hn => exact .inl ⟨hn, (Host.Outcome.next.inj h).symm⟩
  · next hn =>
    split at h
    · next hi =>
      rw [Bool.and_eq_true] at hi
      exact .inr (.inl ⟨by simpa using hn, hi.1, hi.2, h⟩)
    · exact .inr (.inr (Host.Outcome.next.inj h).symm)

/-- An instruction's step: an instruction was decoded, fetched, run and ended (R81). -/
theorem instrStep_next {s t : State} (h : s.instrStep = .next t) :
    ∃ f u, s.decodeNext = .ok f ∧ exec f.instr (s.afterFetch f) = .next u ∧ finish f.instr u = .next t := by
  simp only [State.instrStep] at h
  split at h
  · simp at h
  · next f hf =>
    obtain ⟨u, hu, ht⟩ := andThen_next h
    exact ⟨f, u, hf, hu, ht⟩

/-- One step: an act of the host, or in a run an instruction or the return (R237, R244). -/
theorem step_next {s t : State} (h : step s = .next t) :
    (s.phase = .idle ∧ s.hostStep = .next t) ∨
    (s.phase ≠ .idle ∧ s.goesOn = true ∧ s.instrStep = .next t) ∨
    (s.phase ≠ .idle ∧ s.goesOn = false ∧ t = s.leaveRun) := by
  have run : s.runStep = .next t →
      (s.goesOn = true ∧ s.instrStep = .next t) ∨ (s.goesOn = false ∧ t = s.leaveRun) := by
    intro h
    simp only [State.runStep] at h
    split at h
    · next hg => exact .inl ⟨hg, h⟩
    · next hg => exact .inr ⟨by simpa using hg, (Host.Outcome.next.inj h).symm⟩
  cases hp : s.phase with
  | idle => simp only [step, hp] at h; exact .inl ⟨rfl, h⟩
  | budgeted =>
    simp only [step, hp] at h
    rcases run h with h | h
    · exact .inr (.inl ⟨by simp, h⟩)
    · exact .inr (.inr ⟨by simp, h⟩)
  | untilHalt =>
    simp only [step, hp] at h
    rcases run h with h | h
    · exact .inr (.inl ⟨by simp, h⟩)
    · exact .inr (.inr ⟨by simp, h⟩)

/-- Reading instruction bytes moves PC and the bus record only (R66). -/
theorem State.fetchBytes_frame (n : Nat) (s : State) :
    State.fetchBytes n s = { s with pc := s.pc + BitVec.ofNat 16 n, bus := (State.fetchBytes n s).bus } := by
  induction n generalizing s with
  | zero => simp [State.fetchBytes]
  | succ n ih =>
    simp only [State.fetchBytes]
    rw [ih]
    simp only [State.fetchByte, State.noteRead, State.log]
    congr 1
    rw [BitVec.add_assoc]
    congr 1
    apply BitVec.eq_of_toNat_eq
    have one : BitVec.toNat (1 : Word) = 1 := rfl
    simp only [BitVec.toNat_add, BitVec.toNat_ofNat, one]
    omega

/-- A fetch changes PC, R, the budget and the bus record only (R81). -/
theorem State.afterFetch_frame (s : State) (f : Fetched) :
    s.afterFetch f =
      { s with pc := (s.afterFetch f).pc, r := (s.afterFetch f).r, budget := (s.afterFetch f).budget,
               bus := (s.afterFetch f).bus } := by
  simp only [State.afterFetch, State.charge, State.incR]
  rw [State.fetchBytes_frame]

end Sys2Proof.Machine
end

