-- ==== Sys2Proof/Laws/PerInstr.lean ====
section
/-! SUPPORT. The family RoundTrip: every well-formed instruction is what its encoding decodes to, one lemma per constructor of
Instr. -/

namespace Sys2Proof.Laws.RoundTrip

/-- Decoding the encoding of a well-formed instruction gives that instruction. -/
def Statement (i : Instr) : Prop := i.wf = true → decode (encode i) = .ok i

theorem nop : Statement .nop := by
  intro _
  rfl

theorem ldRpNn (p : Pair) (nn : Word) : Statement (.ldRpNn p nn) := by
  intro _
  cases p <;> exact congrArg (fun w => Except.ok (Instr.ldRpNn _ w)) (mkWord_hi_lo nn)

theorem ldMBcA : Statement .ldMBcA := by
  intro _
  rfl

theorem ldMDeA : Statement .ldMDeA := by
  intro _
  rfl

theorem ldMNnHl (nn : Word) : Statement (.ldMNnHl nn) := by
  intro _
  exact congrArg (fun w => Except.ok (Instr.ldMNnHl w)) (mkWord_hi_lo nn)

theorem ldMNnA (nn : Word) : Statement (.ldMNnA nn) := by
  intro _
  exact congrArg (fun w => Except.ok (Instr.ldMNnA w)) (mkWord_hi_lo nn)

theorem ldAMBc : Statement .ldAMBc := by
  intro _
  rfl

theorem ldAMDe : Statement .ldAMDe := by
  intro _
  rfl

theorem ldHlMNn (nn : Word) : Statement (.ldHlMNn nn) := by
  intro _
  exact congrArg (fun w => Except.ok (Instr.ldHlMNn w)) (mkWord_hi_lo nn)

theorem ldAMNn (nn : Word) : Statement (.ldAMNn nn) := by
  intro _
  exact congrArg (fun w => Except.ok (Instr.ldAMNn w)) (mkWord_hi_lo nn)

theorem incRp (p : Pair) : Statement (.incRp p) := by
  intro _
  cases p <;> rfl

theorem decRp (p : Pair) : Statement (.decRp p) := by
  intro _
  cases p <;> rfl

theorem incR (r : Reg8) : Statement (.incR r) := by
  intro _
  cases r <;> rfl

theorem incMHl : Statement .incMHl := by
  intro _
  rfl

theorem decR (r : Reg8) : Statement (.decR r) := by
  intro _
  cases r <;> rfl

theorem decMHl : Statement .decMHl := by
  intro _
  rfl

theorem ldRN (r : Reg8) (n : Byte) : Statement (.ldRN r n) := by
  intro _
  cases r <;> rfl

theorem ldMHlN (n : Byte) : Statement (.ldMHlN n) := by
  intro _
  rfl

theorem rlca : Statement .rlca := by
  intro _
  rfl

theorem rrca : Statement .rrca := by
  intro _
  rfl

theorem rla : Statement .rla := by
  intro _
  rfl

theorem rra : Statement .rra := by
  intro _
  rfl

theorem daa : Statement .daa := by
  intro _
  rfl

theorem cpl : Statement .cpl := by
  intro _
  rfl

theorem scf : Statement .scf := by
  intro _
  rfl

theorem ccf : Statement .ccf := by
  intro _
  rfl

theorem exAfAf : Statement .exAfAf := by
  intro _
  rfl

theorem djnz (e : Byte) : Statement (.djnz e) := by
  intro _
  rfl

theorem jr (e : Byte) : Statement (.jr e) := by
  intro _
  rfl

theorem jrCc (cc : JrCond) (e : Byte) : Statement (.jrCc cc e) := by
  intro _
  cases cc <;> rfl

theorem addHlRp (p : Pair) : Statement (.addHlRp p) := by
  intro _
  cases p <;> rfl

theorem ldRR (r : Reg8) (q : Reg8) : Statement (.ldRR r q) := by
  intro _
  cases r <;> cases q <;> rfl

theorem ldRMHl (r : Reg8) : Statement (.ldRMHl r) := by
  intro _
  cases r <;> rfl

theorem ldMHlR (q : Reg8) : Statement (.ldMHlR q) := by
  intro _
  cases q <;> rfl

theorem halt : Statement .halt := by
  intro _
  rfl

theorem addAR (q : Reg8) : Statement (.addAR q) := by
  intro _
  cases q <;> rfl

theorem addAMHl : Statement .addAMHl := by
  intro _
  rfl

theorem addAN (n : Byte) : Statement (.addAN n) := by
  intro _
  rfl

theorem adcAR (q : Reg8) : Statement (.adcAR q) := by
  intro _
  cases q <;> rfl

theorem adcAMHl : Statement .adcAMHl := by
  intro _
  rfl

theorem adcAN (n : Byte) : Statement (.adcAN n) := by
  intro _
  rfl

theorem subR (q : Reg8) : Statement (.subR q) := by
  intro _
  cases q <;> rfl

theorem subMHl : Statement .subMHl := by
  intro _
  rfl

theorem subN (n : Byte) : Statement (.subN n) := by
  intro _
  rfl

theorem sbcAR (q : Reg8) : Statement (.sbcAR q) := by
  intro _
  cases q <;> rfl

theorem sbcAMHl : Statement .sbcAMHl := by
  intro _
  rfl

theorem sbcAN (n : Byte) : Statement (.sbcAN n) := by
  intro _
  rfl

theorem andR (q : Reg8) : Statement (.andR q) := by
  intro _
  cases q <;> rfl

theorem andMHl : Statement .andMHl := by
  intro _
  rfl

theorem andN (n : Byte) : Statement (.andN n) := by
  intro _
  rfl

theorem xorR (q : Reg8) : Statement (.xorR q) := by
  intro _
  cases q <;> rfl

theorem xorMHl : Statement .xorMHl := by
  intro _
  rfl

theorem xorN (n : Byte) : Statement (.xorN n) := by
  intro _
  rfl

theorem orR (q : Reg8) : Statement (.orR q) := by
  intro _
  cases q <;> rfl

theorem orMHl : Statement .orMHl := by
  intro _
  rfl

theorem orN (n : Byte) : Statement (.orN n) := by
  intro _
  rfl

theorem cpR (q : Reg8) : Statement (.cpR q) := by
  intro _
  cases q <;> rfl

theorem cpMHl : Statement .cpMHl := by
  intro _
  rfl

theorem cpN (n : Byte) : Statement (.cpN n) := by
  intro _
  rfl

theorem retCc (cc : Cond) : Statement (.retCc cc) := by
  intro _
  cases cc <;> rfl

theorem popQq (p : StackPair) : Statement (.popQq p) := by
  intro _
  cases p <;> rfl

theorem ret : Statement .ret := by
  intro _
  rfl

theorem exx : Statement .exx := by
  intro _
  rfl

theorem jpHl : Statement .jpHl := by
  intro _
  rfl

theorem ldSpHl : Statement .ldSpHl := by
  intro _
  rfl

theorem jpCcNn (cc : Cond) (nn : Word) : Statement (.jpCcNn cc nn) := by
  intro _
  cases cc <;> exact congrArg (fun w => Except.ok (Instr.jpCcNn _ w)) (mkWord_hi_lo nn)

theorem jpNn (nn : Word) : Statement (.jpNn nn) := by
  intro _
  exact congrArg (fun w => Except.ok (Instr.jpNn w)) (mkWord_hi_lo nn)

theorem outNA (n : Byte) : Statement (.outNA n) := by
  intro _
  rfl

theorem inAN (n : Byte) : Statement (.inAN n) := by
  intro _
  rfl

theorem exMSpHl : Statement .exMSpHl := by
  intro _
  rfl

theorem exDeHl : Statement .exDeHl := by
  intro _
  rfl

theorem di : Statement .di := by
  intro _
  rfl

theorem ei : Statement .ei := by
  intro _
  rfl

theorem callCcNn (cc : Cond) (nn : Word) : Statement (.callCcNn cc nn) := by
  intro _
  cases cc <;> exact congrArg (fun w => Except.ok (Instr.callCcNn _ w)) (mkWord_hi_lo nn)

theorem pushQq (p : StackPair) : Statement (.pushQq p) := by
  intro _
  cases p <;> rfl

theorem callNn (nn : Word) : Statement (.callNn nn) := by
  intro _
  exact congrArg (fun w => Except.ok (Instr.callNn w)) (mkWord_hi_lo nn)

theorem rst (t : BitVec 3) : Statement (.rst t) := by
  intro _
  rcases bv3_cases t with rfl | rfl | rfl | rfl | rfl | rfl | rfl | rfl <;> rfl

theorem prefixCb : Statement .prefixCb := by
  intro _
  rfl

theorem prefixEd : Statement .prefixEd := by
  intro _
  rfl

theorem prefixDd : Statement .prefixDd := by
  intro _
  rfl

theorem prefixFd : Statement .prefixFd := by
  intro _
  rfl

theorem rlcR (q : Reg8) : Statement (.rlcR q) := by
  intro _
  cases q <;> rfl

theorem rlcMHl : Statement .rlcMHl := by
  intro _
  rfl

theorem rrcR (q : Reg8) : Statement (.rrcR q) := by
  intro _
  cases q <;> rfl

theorem rrcMHl : Statement .rrcMHl := by
  intro _
  rfl

theorem rlR (q : Reg8) : Statement (.rlR q) := by
  intro _
  cases q <;> rfl

theorem rlMHl : Statement .rlMHl := by
  intro _
  rfl

theorem rrR (q : Reg8) : Statement (.rrR q) := by
  intro _
  cases q <;> rfl

theorem rrMHl : Statement .rrMHl := by
  intro _
  rfl

theorem slaR (q : Reg8) : Statement (.slaR q) := by
  intro _
  cases q <;> rfl

theorem slaMHl : Statement .slaMHl := by
  intro _
  rfl

theorem sraR (q : Reg8) : Statement (.sraR q) := by
  intro _
  cases q <;> rfl

theorem sraMHl : Statement .sraMHl := by
  intro _
  rfl

theorem sllR (q : Reg8) : Statement (.sllR q) := by
  intro _
  cases q <;> rfl

theorem sllMHl : Statement .sllMHl := by
  intro _
  rfl

theorem srlR (q : Reg8) : Statement (.srlR q) := by
  intro _
  cases q <;> rfl

theorem srlMHl : Statement .srlMHl := by
  intro _
  rfl

theorem bitBR (b : BitVec 3) (q : Reg8) : Statement (.bitBR b q) := by
  intro _
  cases q <;> rcases bv3_cases b with rfl | rfl | rfl | rfl | rfl | rfl | rfl | rfl <;> rfl

theorem bitBMHl (b : BitVec 3) : Statement (.bitBMHl b) := by
  intro _
  rcases bv3_cases b with rfl | rfl | rfl | rfl | rfl | rfl | rfl | rfl <;> rfl

theorem resBR (b : BitVec 3) (q : Reg8) : Statement (.resBR b q) := by
  intro _
  cases q <;> rcases bv3_cases b with rfl | rfl | rfl | rfl | rfl | rfl | rfl | rfl <;> rfl

theorem resBMHl (b : BitVec 3) : Statement (.resBMHl b) := by
  intro _
  rcases bv3_cases b with rfl | rfl | rfl | rfl | rfl | rfl | rfl | rfl <;> rfl

theorem setBR (b : BitVec 3) (q : Reg8) : Statement (.setBR b q) := by
  intro _
  cases q <;> rcases bv3_cases b with rfl | rfl | rfl | rfl | rfl | rfl | rfl | rfl <;> rfl

theorem setBMHl (b : BitVec 3) : Statement (.setBMHl b) := by
  intro _
  rcases bv3_cases b with rfl | rfl | rfl | rfl | rfl | rfl | rfl | rfl <;> rfl

theorem inRC (r : Reg8) : Statement (.inRC r) := by
  intro _
  cases r <;> rfl

theorem inC : Statement .inC := by
  intro _
  rfl

theorem outCR (r : Reg8) : Statement (.outCR r) := by
  intro _
  cases r <;> rfl

theorem outC0 : Statement .outC0 := by
  intro _
  rfl

theorem sbcHlRp (p : Pair) : Statement (.sbcHlRp p) := by
  intro _
  cases p <;> rfl

theorem adcHlRp (p : Pair) : Statement (.adcHlRp p) := by
  intro _
  cases p <;> rfl

theorem ldMNnRp (p : Pair) (nn : Word) : Statement (.ldMNnRp p nn) := by
  intro _
  cases p <;> exact congrArg (fun w => Except.ok (Instr.ldMNnRp _ w)) (mkWord_hi_lo nn)

theorem ldRpMNn (p : Pair) (nn : Word) : Statement (.ldRpMNn p nn) := by
  intro _
  cases p <;> exact congrArg (fun w => Except.ok (Instr.ldRpMNn _ w)) (mkWord_hi_lo nn)

theorem neg : Statement .neg := by
  intro _
  rfl

theorem negMirror (y : BitVec 3) : Statement (.negMirror y) := by
  intro hwf
  rcases bv3_cases y with rfl | rfl | rfl | rfl | rfl | rfl | rfl | rfl <;> first | rfl | exact absurd hwf (by decide)

theorem retn : Statement .retn := by
  intro _
  rfl

theorem reti : Statement .reti := by
  intro _
  rfl

theorem retnMirror (y : BitVec 3) : Statement (.retnMirror y) := by
  intro hwf
  rcases bv3_cases y with rfl | rfl | rfl | rfl | rfl | rfl | rfl | rfl <;> first | rfl | exact absurd hwf (by decide)

theorem im0 : Statement .im0 := by
  intro _
  rfl

theorem im1 : Statement .im1 := by
  intro _
  rfl

theorem im2 : Statement .im2 := by
  intro _
  rfl

theorem im0Mirror (y : BitVec 3) : Statement (.im0Mirror y) := by
  intro hwf
  rcases bv3_cases y with rfl | rfl | rfl | rfl | rfl | rfl | rfl | rfl <;> first | rfl | exact absurd hwf (by decide)

theorem im1Mirror : Statement .im1Mirror := by
  intro _
  rfl

theorem im2Mirror : Statement .im2Mirror := by
  intro _
  rfl

theorem ldIA : Statement .ldIA := by
  intro _
  rfl

theorem ldRA : Statement .ldRA := by
  intro _
  rfl

theorem ldAI : Statement .ldAI := by
  intro _
  rfl

theorem ldAR : Statement .ldAR := by
  intro _
  rfl

theorem rrd : Statement .rrd := by
  intro _
  rfl

theorem rld : Statement .rld := by
  intro _
  rfl

theorem ldi : Statement .ldi := by
  intro _
  rfl

theorem ldd : Statement .ldd := by
  intro _
  rfl

theorem ldir : Statement .ldir := by
  intro _
  rfl

theorem lddr : Statement .lddr := by
  intro _
  rfl

theorem cpi : Statement .cpi := by
  intro _
  rfl

theorem cpd : Statement .cpd := by
  intro _
  rfl

theorem cpir : Statement .cpir := by
  intro _
  rfl

theorem cpdr : Statement .cpdr := by
  intro _
  rfl

theorem ini : Statement .ini := by
  intro _
  rfl

theorem ind : Statement .ind := by
  intro _
  rfl

theorem inir : Statement .inir := by
  intro _
  rfl

theorem indr : Statement .indr := by
  intro _
  rfl

theorem outi : Statement .outi := by
  intro _
  rfl

theorem outd : Statement .outd := by
  intro _
  rfl

theorem otir : Statement .otir := by
  intro _
  rfl

theorem otdr : Statement .otdr := by
  intro _
  rfl

theorem edHole (o : Byte) : Statement (.edHole o) := by
  intro h
  exact decode_hole o h

theorem addXyRp (x : Idx) (p : XyPair) : Statement (.addXyRp x p) := by
  intro _
  cases x <;> cases p <;> rfl

theorem ldXyNn (x : Idx) (nn : Word) : Statement (.ldXyNn x nn) := by
  intro _
  cases x <;> exact congrArg (fun w => Except.ok (Instr.ldXyNn _ w)) (mkWord_hi_lo nn)

theorem ldMNnXy (x : Idx) (nn : Word) : Statement (.ldMNnXy x nn) := by
  intro _
  cases x <;> exact congrArg (fun w => Except.ok (Instr.ldMNnXy _ w)) (mkWord_hi_lo nn)

theorem ldXyMNn (x : Idx) (nn : Word) : Statement (.ldXyMNn x nn) := by
  intro _
  cases x <;> exact congrArg (fun w => Except.ok (Instr.ldXyMNn _ w)) (mkWord_hi_lo nn)

theorem incXy (x : Idx) : Statement (.incXy x) := by
  intro _
  cases x <;> rfl

theorem decXy (x : Idx) : Statement (.decXy x) := by
  intro _
  cases x <;> rfl

theorem incMXy (x : Idx) (d : Byte) : Statement (.incMXy x d) := by
  intro _
  cases x <;> rfl

theorem decMXy (x : Idx) (d : Byte) : Statement (.decMXy x d) := by
  intro _
  cases x <;> rfl

theorem ldMXyN (x : Idx) (d : Byte) (n : Byte) : Statement (.ldMXyN x d n) := by
  intro _
  cases x <;> rfl

theorem ldRMXy (x : Idx) (r : Reg8) (d : Byte) : Statement (.ldRMXy x r d) := by
  intro _
  cases x <;> cases r <;> rfl

theorem ldMXyR (x : Idx) (d : Byte) (q : Reg8) : Statement (.ldMXyR x d q) := by
  intro _
  cases x <;> cases q <;> rfl

theorem addAMXy (x : Idx) (d : Byte) : Statement (.addAMXy x d) := by
  intro _
  cases x <;> rfl

theorem adcAMXy (x : Idx) (d : Byte) : Statement (.adcAMXy x d) := by
  intro _
  cases x <;> rfl

theorem subMXy (x : Idx) (d : Byte) : Statement (.subMXy x d) := by
  intro _
  cases x <;> rfl

theorem sbcAMXy (x : Idx) (d : Byte) : Statement (.sbcAMXy x d) := by
  intro _
  cases x <;> rfl

theorem andMXy (x : Idx) (d : Byte) : Statement (.andMXy x d) := by
  intro _
  cases x <;> rfl

theorem xorMXy (x : Idx) (d : Byte) : Statement (.xorMXy x d) := by
  intro _
  cases x <;> rfl

theorem orMXy (x : Idx) (d : Byte) : Statement (.orMXy x d) := by
  intro _
  cases x <;> rfl

theorem cpMXy (x : Idx) (d : Byte) : Statement (.cpMXy x d) := by
  intro _
  cases x <;> rfl

theorem popXy (x : Idx) : Statement (.popXy x) := by
  intro _
  cases x <;> rfl

theorem pushXy (x : Idx) : Statement (.pushXy x) := by
  intro _
  cases x <;> rfl

theorem exMSpXy (x : Idx) : Statement (.exMSpXy x) := by
  intro _
  cases x <;> rfl

theorem jpXy (x : Idx) : Statement (.jpXy x) := by
  intro _
  cases x <;> rfl

theorem ldSpXy (x : Idx) : Statement (.ldSpXy x) := by
  intro _
  cases x <;> rfl

theorem incXyHalf (x : Idx) (h : Half) : Statement (.incXyHalf x h) := by
  intro _
  cases x <;> cases h <;> rfl

theorem decXyHalf (x : Idx) (h : Half) : Statement (.decXyHalf x h) := by
  intro _
  cases x <;> cases h <;> rfl

theorem ldXyHalfN (x : Idx) (h : Half) (n : Byte) : Statement (.ldXyHalfN x h n) := by
  intro _
  cases x <;> cases h <;> rfl

theorem ldRXyHalf (x : Idx) (r : Reg8) (h : Half) : Statement (.ldRXyHalf x r h) := by
  intro hwf
  cases x <;> cases r <;> cases h <;> first | rfl | exact absurd hwf (by decide)

theorem ldXyHalfS (x : Idx) (h : Half) (q : HalfSrc) : Statement (.ldXyHalfS x h q) := by
  intro _
  cases x <;> cases h <;> cases q <;> rfl

theorem addAXyHalf (x : Idx) (h : Half) : Statement (.addAXyHalf x h) := by
  intro _
  cases x <;> cases h <;> rfl

theorem adcAXyHalf (x : Idx) (h : Half) : Statement (.adcAXyHalf x h) := by
  intro _
  cases x <;> cases h <;> rfl

theorem subXyHalf (x : Idx) (h : Half) : Statement (.subXyHalf x h) := by
  intro _
  cases x <;> cases h <;> rfl

theorem sbcAXyHalf (x : Idx) (h : Half) : Statement (.sbcAXyHalf x h) := by
  intro _
  cases x <;> cases h <;> rfl

theorem andXyHalf (x : Idx) (h : Half) : Statement (.andXyHalf x h) := by
  intro _
  cases x <;> cases h <;> rfl

theorem xorXyHalf (x : Idx) (h : Half) : Statement (.xorXyHalf x h) := by
  intro _
  cases x <;> cases h <;> rfl

theorem orXyHalf (x : Idx) (h : Half) : Statement (.orXyHalf x h) := by
  intro _
  cases x <;> cases h <;> rfl

theorem cpXyHalf (x : Idx) (h : Half) : Statement (.cpXyHalf x h) := by
  intro _
  cases x <;> cases h <;> rfl

theorem xyPrefixHlNotUsed (x : Idx) (o : Byte) : Statement (.xyPrefixHlNotUsed x o) := by
  intro h
  exact decode_unused x o h

theorem xyPrefixBeforeEd (x : Idx) : Statement (.xyPrefixBeforeEd x) := by
  intro _
  cases x <;> rfl

theorem rlcMXy (x : Idx) (d : Byte) : Statement (.rlcMXy x d) := by
  intro _
  cases x <;> rfl

theorem rlcMXyR (x : Idx) (d : Byte) (q : Reg8) : Statement (.rlcMXyR x d q) := by
  intro _
  cases x <;> cases q <;> rfl

theorem rrcMXy (x : Idx) (d : Byte) : Statement (.rrcMXy x d) := by
  intro _
  cases x <;> rfl

theorem rrcMXyR (x : Idx) (d : Byte) (q : Reg8) : Statement (.rrcMXyR x d q) := by
  intro _
  cases x <;> cases q <;> rfl

theorem rlMXy (x : Idx) (d : Byte) : Statement (.rlMXy x d) := by
  intro _
  cases x <;> rfl

theorem rlMXyR (x : Idx) (d : Byte) (q : Reg8) : Statement (.rlMXyR x d q) := by
  intro _
  cases x <;> cases q <;> rfl

theorem rrMXy (x : Idx) (d : Byte) : Statement (.rrMXy x d) := by
  intro _
  cases x <;> rfl

theorem rrMXyR (x : Idx) (d : Byte) (q : Reg8) : Statement (.rrMXyR x d q) := by
  intro _
  cases x <;> cases q <;> rfl

theorem slaMXy (x : Idx) (d : Byte) : Statement (.slaMXy x d) := by
  intro _
  cases x <;> rfl

theorem slaMXyR (x : Idx) (d : Byte) (q : Reg8) : Statement (.slaMXyR x d q) := by
  intro _
  cases x <;> cases q <;> rfl

theorem sraMXy (x : Idx) (d : Byte) : Statement (.sraMXy x d) := by
  intro _
  cases x <;> rfl

theorem sraMXyR (x : Idx) (d : Byte) (q : Reg8) : Statement (.sraMXyR x d q) := by
  intro _
  cases x <;> cases q <;> rfl

theorem sllMXy (x : Idx) (d : Byte) : Statement (.sllMXy x d) := by
  intro _
  cases x <;> rfl

theorem sllMXyR (x : Idx) (d : Byte) (q : Reg8) : Statement (.sllMXyR x d q) := by
  intro _
  cases x <;> cases q <;> rfl

theorem srlMXy (x : Idx) (d : Byte) : Statement (.srlMXy x d) := by
  intro _
  cases x <;> rfl

theorem srlMXyR (x : Idx) (d : Byte) (q : Reg8) : Statement (.srlMXyR x d q) := by
  intro _
  cases x <;> cases q <;> rfl

theorem bitBMXy (x : Idx) (d : Byte) (b : BitVec 3) : Statement (.bitBMXy x d b) := by
  intro _
  cases x <;> rcases bv3_cases b with rfl | rfl | rfl | rfl | rfl | rfl | rfl | rfl <;> rfl

theorem bitBMXyMirror (x : Idx) (d : Byte) (b : BitVec 3) (q : Reg8) : Statement (.bitBMXyMirror x d b q) := by
  intro _
  cases x <;> cases q <;> rcases bv3_cases b with rfl | rfl | rfl | rfl | rfl | rfl | rfl | rfl <;> rfl

theorem resBMXy (x : Idx) (d : Byte) (b : BitVec 3) : Statement (.resBMXy x d b) := by
  intro _
  cases x <;> rcases bv3_cases b with rfl | rfl | rfl | rfl | rfl | rfl | rfl | rfl <;> rfl

theorem resBMXyR (x : Idx) (d : Byte) (b : BitVec 3) (q : Reg8) : Statement (.resBMXyR x d b q) := by
  intro _
  cases x <;> cases q <;> rcases bv3_cases b with rfl | rfl | rfl | rfl | rfl | rfl | rfl | rfl <;> rfl

theorem setBMXy (x : Idx) (d : Byte) (b : BitVec 3) : Statement (.setBMXy x d b) := by
  intro _
  cases x <;> rcases bv3_cases b with rfl | rfl | rfl | rfl | rfl | rfl | rfl | rfl <;> rfl

theorem setBMXyR (x : Idx) (d : Byte) (b : BitVec 3) (q : Reg8) : Statement (.setBMXyR x d b q) := by
  intro _
  cases x <;> cases q <;> rcases bv3_cases b with rfl | rfl | rfl | rfl | rfl | rfl | rfl | rfl <;> rfl

end Sys2Proof.Laws.RoundTrip
end

