-- ==== Sys2Proof/Tests/Slice0.lean ====
section
/-! SUPPORT. Tests: words written out from the spec's encodings, the ill-formed terms WellFormed refuses, single steps with
expected values from spec/95_test_vectors.md, and for every statement with hypotheses a state and operands that meet them. -/

namespace Sys2Proof.Tests

open Sys2Proof.Machine

/-- The machine after reset inside a `run(-1)` call, with code at 0000H. -/
def code (bytes : List Byte) : State := State.reset.withProgram bytes

/-- One step answers a next state of which `p` holds. -/
def ends (s : State) (p : State → Bool) : Bool :=
  match step s with
  | .next t => p t
  | .fault _ => false
  | .refused _ => false

/-- One step is refused for a reason. -/
def refuses (s : State) (q : Refusal) : Bool :=
  match step s with
  | .next _ => false
  | .fault _ => false
  | .refused p => p == q

/-! ## Decoding: a word for every constructor, from the opcode maps -/

/-- 8-bit arithmetic of the base page: `10 ooo rrr` and `11 ooo 110 n` (R72, R91, R105), INC, DEC (R106), DAA, CPL, SCF, CCF. -/
theorem test_decode_base_arith :
  decode [0x80#8] = .ok (.addAR .b) ∧ decode [0x86#8] = .ok .addAMHl ∧
  decode [0xC6#8, 0x01#8] = .ok (.addAN 0x01#8) ∧ decode [0x89#8] = .ok (.adcAR .c) ∧
  decode [0x8E#8] = .ok .adcAMHl ∧ decode [0xCE#8, 0x80#8] = .ok (.adcAN 0x80#8) ∧
  decode [0x92#8] = .ok (.subR .d) ∧ decode [0x96#8] = .ok .subMHl ∧ decode [0xD6#8, 0xFF#8] = .ok (.subN 0xFF#8) ∧
  decode [0x9B#8] = .ok (.sbcAR .e) ∧ decode [0x9E#8] = .ok .sbcAMHl ∧
  decode [0xDE#8, 0x7F#8] = .ok (.sbcAN 0x7F#8) ∧ decode [0xA4#8] = .ok (.andR .h) ∧
  decode [0xA6#8] = .ok .andMHl ∧ decode [0xE6#8, 0x0F#8] = .ok (.andN 0x0F#8) ∧ decode [0xAD#8] = .ok (.xorR .l) ∧
  decode [0xAE#8] = .ok .xorMHl ∧ decode [0xEE#8, 0x03#8] = .ok (.xorN 0x03#8) ∧ decode [0xB7#8] = .ok (.orR .a) ∧
  decode [0xB6#8] = .ok .orMHl ∧ decode [0xF6#8, 0x55#8] = .ok (.orN 0x55#8) ∧ decode [0xB8#8] = .ok (.cpR .b) ∧
  decode [0xBE#8] = .ok .cpMHl ∧ decode [0xFE#8, 0x28#8] = .ok (.cpN 0x28#8) ∧ decode [0x3C#8] = .ok (.incR .a) ∧
  decode [0x34#8] = .ok .incMHl ∧ decode [0x0D#8] = .ok (.decR .c) ∧ decode [0x35#8] = .ok .decMHl ∧
  decode [0x27#8] = .ok .daa ∧ decode [0x2F#8] = .ok .cpl ∧ decode [0x37#8] = .ok .scf ∧
  decode [0x3F#8] = .ok .ccf ∧ decode [0x07#8] = .ok .rlca ∧ decode [0x0F#8] = .ok .rrca ∧
  decode [0x17#8] = .ok .rla ∧ decode [0x1F#8] = .ok .rra := by
  and_intros <;> rfl

/-- 16-bit arithmetic and loads of the base page (R69, R91). -/
theorem test_decode_base_pairs :
  decode [0x39#8] = .ok (.addHlRp .sp) ∧ decode [0x23#8] = .ok (.incRp .hl) ∧ decode [0x1B#8] = .ok (.decRp .de) ∧
  decode [0x01#8, 0x34#8, 0x12#8] = .ok (.ldRpNn .bc 0x1234#16) ∧ decode [0x02#8] = .ok .ldMBcA ∧
  decode [0x12#8] = .ok .ldMDeA ∧ decode [0x22#8, 0x00#8, 0x40#8] = .ok (.ldMNnHl 0x4000#16) ∧
  decode [0x32#8, 0x01#8, 0x40#8] = .ok (.ldMNnA 0x4001#16) ∧ decode [0x0A#8] = .ok .ldAMBc ∧
  decode [0x1A#8] = .ok .ldAMDe ∧ decode [0x2A#8, 0xCD#8, 0xAB#8] = .ok (.ldHlMNn 0xABCD#16) ∧
  decode [0x3A#8, 0xFF#8, 0x00#8] = .ok (.ldAMNn 0x00FF#16) ∧ decode [0x16#8, 0x99#8] = .ok (.ldRN .d 0x99#8) ∧
  decode [0x36#8, 0x7E#8] = .ok (.ldMHlN 0x7E#8) ∧ decode [0x4D#8] = .ok (.ldRR .c .l) ∧
  decode [0x7E#8] = .ok (.ldRMHl .a) ∧ decode [0x70#8] = .ok (.ldMHlR .b) ∧ decode [0x08#8] = .ok .exAfAf ∧
  decode [0xD9#8] = .ok .exx ∧ decode [0xEB#8] = .ok .exDeHl ∧ decode [0xE3#8] = .ok .exMSpHl ∧
  decode [0xF9#8] = .ok .ldSpHl ∧ decode [0xF1#8] = .ok (.popQq .af) ∧ decode [0xD5#8] = .ok (.pushQq .de) := by
  and_intros <;> rfl

/-- Control transfer, ports and CPU control of the base page (R71, R74, R78, R91). -/
theorem test_decode_base_control :
  decode [0x00#8] = .ok .nop ∧ decode [0x76#8] = .ok .halt ∧ decode [0x10#8, 0xFE#8] = .ok (.djnz 0xFE#8) ∧
  decode [0x18#8, 0x80#8] = .ok (.jr 0x80#8) ∧ decode [0x38#8, 0x05#8] = .ok (.jrCc .c 0x05#8) ∧
  decode [0xC8#8] = .ok (.retCc .z) ∧ decode [0xC9#8] = .ok .ret ∧ decode [0xE9#8] = .ok .jpHl ∧
  decode [0xE2#8, 0x34#8, 0x12#8] = .ok (.jpCcNn .po 0x1234#16) ∧
  decode [0xC3#8, 0x00#8, 0x80#8] = .ok (.jpNn 0x8000#16) ∧
  decode [0xFC#8, 0x78#8, 0x56#8] = .ok (.callCcNn .m 0x5678#16) ∧
  decode [0xCD#8, 0x10#8, 0x20#8] = .ok (.callNn 0x2010#16) ∧ decode [0xDF#8] = .ok (.rst 3#3) ∧
  decode [0xD3#8, 0xFE#8] = .ok (.outNA 0xFE#8) ∧ decode [0xDB#8, 0x1F#8] = .ok (.inAN 0x1F#8) ∧
  decode [0xF3#8] = .ok .di ∧ decode [0xFB#8] = .ok .ei ∧ decode [0xCB#8] = .ok .prefixCb ∧
  decode [0xED#8] = .ok .prefixEd ∧ decode [0xDD#8] = .ok .prefixDd ∧ decode [0xFD#8] = .ok .prefixFd := by
  and_intros <;> rfl

/-- The CB page: `00 yyy rrr`, `01 bbb rrr`, `10 bbb rrr`, `11 bbb rrr` (R73, R76, R92). -/
theorem test_decode_cb_page :
  decode [0xCB#8, 0x00#8] = .ok (.rlcR .b) ∧ decode [0xCB#8, 0x06#8] = .ok .rlcMHl ∧
  decode [0xCB#8, 0x09#8] = .ok (.rrcR .c) ∧ decode [0xCB#8, 0x0E#8] = .ok .rrcMHl ∧
  decode [0xCB#8, 0x12#8] = .ok (.rlR .d) ∧ decode [0xCB#8, 0x16#8] = .ok .rlMHl ∧
  decode [0xCB#8, 0x1B#8] = .ok (.rrR .e) ∧ decode [0xCB#8, 0x1E#8] = .ok .rrMHl ∧
  decode [0xCB#8, 0x24#8] = .ok (.slaR .h) ∧ decode [0xCB#8, 0x26#8] = .ok .slaMHl ∧
  decode [0xCB#8, 0x2D#8] = .ok (.sraR .l) ∧ decode [0xCB#8, 0x2E#8] = .ok .sraMHl ∧
  decode [0xCB#8, 0x37#8] = .ok (.sllR .a) ∧ decode [0xCB#8, 0x36#8] = .ok .sllMHl ∧
  decode [0xCB#8, 0x38#8] = .ok (.srlR .b) ∧ decode [0xCB#8, 0x3E#8] = .ok .srlMHl ∧
  decode [0xCB#8, 0x7C#8] = .ok (.bitBR 7#3 .h) ∧ decode [0xCB#8, 0x46#8] = .ok (.bitBMHl 0#3) ∧
  decode [0xCB#8, 0x91#8] = .ok (.resBR 2#3 .c) ∧ decode [0xCB#8, 0xBE#8] = .ok (.resBMHl 7#3) ∧
  decode [0xCB#8, 0xEF#8] = .ok (.setBR 5#3 .a) ∧ decode [0xCB#8, 0xC6#8] = .ok (.setBMHl 0#3) := by
  and_intros <;> rfl

/-- The ED page (R93): ports, 16-bit arithmetic, loads, NEG, returns, IM and their mirrors, digits, holes. -/
theorem test_decode_ed_page :
  decode [0xED#8, 0x78#8] = .ok (.inRC .a) ∧ decode [0xED#8, 0x70#8] = .ok .inC ∧
  decode [0xED#8, 0x41#8] = .ok (.outCR .b) ∧ decode [0xED#8, 0x71#8] = .ok .outC0 ∧
  decode [0xED#8, 0x62#8] = .ok (.sbcHlRp .hl) ∧ decode [0xED#8, 0x5A#8] = .ok (.adcHlRp .de) ∧
  decode [0xED#8, 0x43#8, 0x34#8, 0x12#8] = .ok (.ldMNnRp .bc 0x1234#16) ∧
  decode [0xED#8, 0x7B#8, 0x00#8, 0x80#8] = .ok (.ldRpMNn .sp 0x8000#16) ∧ decode [0xED#8, 0x44#8] = .ok .neg ∧
  decode [0xED#8, 0x7C#8] = .ok (.negMirror 7#3) ∧ decode [0xED#8, 0x45#8] = .ok .retn ∧
  decode [0xED#8, 0x4D#8] = .ok .reti ∧ decode [0xED#8, 0x55#8] = .ok (.retnMirror 2#3) ∧
  decode [0xED#8, 0x7D#8] = .ok (.retnMirror 7#3) ∧ decode [0xED#8, 0x46#8] = .ok .im0 ∧
  decode [0xED#8, 0x56#8] = .ok .im1 ∧ decode [0xED#8, 0x5E#8] = .ok .im2 ∧
  decode [0xED#8, 0x4E#8] = .ok (.im0Mirror 1#3) ∧ decode [0xED#8, 0x66#8] = .ok (.im0Mirror 4#3) ∧
  decode [0xED#8, 0x6E#8] = .ok (.im0Mirror 5#3) ∧ decode [0xED#8, 0x76#8] = .ok .im1Mirror ∧
  decode [0xED#8, 0x7E#8] = .ok .im2Mirror ∧ decode [0xED#8, 0x47#8] = .ok .ldIA ∧
  decode [0xED#8, 0x4F#8] = .ok .ldRA ∧ decode [0xED#8, 0x57#8] = .ok .ldAI ∧ decode [0xED#8, 0x5F#8] = .ok .ldAR ∧
  decode [0xED#8, 0x67#8] = .ok .rrd ∧ decode [0xED#8, 0x6F#8] = .ok .rld ∧
  decode [0xED#8, 0x77#8] = .ok (.edHole 0x77#8) ∧ decode [0xED#8, 0x7F#8] = .ok (.edHole 0x7F#8) ∧
  decode [0xED#8, 0x00#8] = .ok (.edHole 0x00#8) ∧ decode [0xED#8, 0xA4#8] = .ok (.edHole 0xA4#8) ∧
  decode [0xED#8, 0xDD#8] = .ok (.edHole 0xDD#8) := by
  and_intros <;> rfl

/-- The sixteen block instructions of the ED page (R93, R175). -/
theorem test_decode_ed_block :
  decode [0xED#8, 0xA0#8] = .ok .ldi ∧ decode [0xED#8, 0xA8#8] = .ok .ldd ∧ decode [0xED#8, 0xB0#8] = .ok .ldir ∧
  decode [0xED#8, 0xB8#8] = .ok .lddr ∧ decode [0xED#8, 0xA1#8] = .ok .cpi ∧ decode [0xED#8, 0xA9#8] = .ok .cpd ∧
  decode [0xED#8, 0xB1#8] = .ok .cpir ∧ decode [0xED#8, 0xB9#8] = .ok .cpdr ∧ decode [0xED#8, 0xA2#8] = .ok .ini ∧
  decode [0xED#8, 0xAA#8] = .ok .ind ∧ decode [0xED#8, 0xB2#8] = .ok .inir ∧ decode [0xED#8, 0xBA#8] = .ok .indr ∧
  decode [0xED#8, 0xA3#8] = .ok .outi ∧ decode [0xED#8, 0xAB#8] = .ok .outd ∧ decode [0xED#8, 0xB3#8] = .ok .otir ∧
  decode [0xED#8, 0xBB#8] = .ok .otdr := by
  and_intros <;> rfl

/-- DD and FD before an index-affected opcode (R86, R89, R95): the displacement stands before an immediate. -/
theorem test_decode_indexed :
  decode [0xDD#8, 0x29#8] = .ok (.addXyRp .ix .xy) ∧
  decode [0xFD#8, 0x21#8, 0x34#8, 0x12#8] = .ok (.ldXyNn .iy 0x1234#16) ∧
  decode [0xDD#8, 0x22#8, 0x00#8, 0x40#8] = .ok (.ldMNnXy .ix 0x4000#16) ∧
  decode [0xFD#8, 0x2A#8, 0x00#8, 0x40#8] = .ok (.ldXyMNn .iy 0x4000#16) ∧
  decode [0xDD#8, 0x23#8] = .ok (.incXy .ix) ∧ decode [0xFD#8, 0x2B#8] = .ok (.decXy .iy) ∧
  decode [0xDD#8, 0x34#8, 0x7F#8] = .ok (.incMXy .ix 0x7F#8) ∧
  decode [0xFD#8, 0x35#8, 0x80#8] = .ok (.decMXy .iy 0x80#8) ∧
  decode [0xDD#8, 0x36#8, 0xFE#8, 0x42#8] = .ok (.ldMXyN .ix 0xFE#8 0x42#8) ∧
  decode [0xDD#8, 0x66#8, 0x01#8] = .ok (.ldRMXy .ix .h 0x01#8) ∧
  decode [0xFD#8, 0x75#8, 0x02#8] = .ok (.ldMXyR .iy 0x02#8 .l) ∧
  decode [0xDD#8, 0x86#8, 0x01#8] = .ok (.addAMXy .ix 0x01#8) ∧
  decode [0xFD#8, 0x8E#8, 0x01#8] = .ok (.adcAMXy .iy 0x01#8) ∧
  decode [0xDD#8, 0x96#8, 0x01#8] = .ok (.subMXy .ix 0x01#8) ∧
  decode [0xFD#8, 0x9E#8, 0x01#8] = .ok (.sbcAMXy .iy 0x01#8) ∧
  decode [0xDD#8, 0xA6#8, 0x01#8] = .ok (.andMXy .ix 0x01#8) ∧
  decode [0xFD#8, 0xAE#8, 0x01#8] = .ok (.xorMXy .iy 0x01#8) ∧
  decode [0xDD#8, 0xB6#8, 0x01#8] = .ok (.orMXy .ix 0x01#8) ∧
  decode [0xFD#8, 0xBE#8, 0x01#8] = .ok (.cpMXy .iy 0x01#8) ∧ decode [0xDD#8, 0xE1#8] = .ok (.popXy .ix) ∧
  decode [0xFD#8, 0xE5#8] = .ok (.pushXy .iy) ∧ decode [0xDD#8, 0xE3#8] = .ok (.exMSpXy .ix) ∧
  decode [0xFD#8, 0xE9#8] = .ok (.jpXy .iy) ∧ decode [0xDD#8, 0xF9#8] = .ok (.ldSpXy .ix) := by
  and_intros <;> rfl

/-- The halves of an index register, and the prefix where HL takes no part (R86, R87, R88, R89). -/
theorem test_decode_halves :
  decode [0xDD#8, 0x24#8] = .ok (.incXyHalf .ix .hi) ∧ decode [0xFD#8, 0x2D#8] = .ok (.decXyHalf .iy .lo) ∧
  decode [0xDD#8, 0x26#8, 0x12#8] = .ok (.ldXyHalfN .ix .hi 0x12#8) ∧
  decode [0xFD#8, 0x7D#8] = .ok (.ldRXyHalf .iy .a .lo) ∧ decode [0xDD#8, 0x65#8] = .ok (.ldXyHalfS .ix .hi .xyl) ∧
  decode [0xFD#8, 0x6C#8] = .ok (.ldXyHalfS .iy .lo .xyh) ∧ decode [0xDD#8, 0x84#8] = .ok (.addAXyHalf .ix .hi) ∧
  decode [0xFD#8, 0x8D#8] = .ok (.adcAXyHalf .iy .lo) ∧ decode [0xDD#8, 0x94#8] = .ok (.subXyHalf .ix .hi) ∧
  decode [0xFD#8, 0x9D#8] = .ok (.sbcAXyHalf .iy .lo) ∧ decode [0xDD#8, 0xA4#8] = .ok (.andXyHalf .ix .hi) ∧
  decode [0xFD#8, 0xAD#8] = .ok (.xorXyHalf .iy .lo) ∧ decode [0xDD#8, 0xB4#8] = .ok (.orXyHalf .ix .hi) ∧
  decode [0xFD#8, 0xBD#8] = .ok (.cpXyHalf .iy .lo) ∧
  decode [0xDD#8, 0xEB#8] = .ok (.xyPrefixHlNotUsed .ix 0xEB#8) ∧
  decode [0xFD#8, 0x76#8] = .ok (.xyPrefixHlNotUsed .iy 0x76#8) ∧
  decode [0xDD#8, 0xED#8, 0x44#8] = .ok (.xyPrefixBeforeEd .ix) ∧
  decode [0xDD#8, 0xFD#8, 0x21#8, 0x34#8, 0x12#8] = .ok .prefixDd ∧ decode [0xFD#8, 0xFD#8] = .ok .prefixFd := by
  and_intros <;> rfl

/-- DDCB and FDCB: the displacement stands before the opcode (R90, R96). -/
theorem test_decode_xy_cb :
  decode [0xDD#8, 0xCB#8, 0x02#8, 0x06#8] = .ok (.rlcMXy .ix 0x02#8) ∧
  decode [0xDD#8, 0xCB#8, 0x02#8, 0x00#8] = .ok (.rlcMXyR .ix 0x02#8 .b) ∧
  decode [0xFD#8, 0xCB#8, 0xFE#8, 0x0E#8] = .ok (.rrcMXy .iy 0xFE#8) ∧
  decode [0xFD#8, 0xCB#8, 0xFE#8, 0x09#8] = .ok (.rrcMXyR .iy 0xFE#8 .c) ∧
  decode [0xDD#8, 0xCB#8, 0x7F#8, 0x16#8] = .ok (.rlMXy .ix 0x7F#8) ∧
  decode [0xDD#8, 0xCB#8, 0x7F#8, 0x12#8] = .ok (.rlMXyR .ix 0x7F#8 .d) ∧
  decode [0xFD#8, 0xCB#8, 0x80#8, 0x1E#8] = .ok (.rrMXy .iy 0x80#8) ∧
  decode [0xFD#8, 0xCB#8, 0x80#8, 0x1B#8] = .ok (.rrMXyR .iy 0x80#8 .e) ∧
  decode [0xDD#8, 0xCB#8, 0x00#8, 0x26#8] = .ok (.slaMXy .ix 0x00#8) ∧
  decode [0xDD#8, 0xCB#8, 0x00#8, 0x24#8] = .ok (.slaMXyR .ix 0x00#8 .h) ∧
  decode [0xFD#8, 0xCB#8, 0x01#8, 0x2E#8] = .ok (.sraMXy .iy 0x01#8) ∧
  decode [0xFD#8, 0xCB#8, 0x01#8, 0x2D#8] = .ok (.sraMXyR .iy 0x01#8 .l) ∧
  decode [0xDD#8, 0xCB#8, 0x01#8, 0x36#8] = .ok (.sllMXy .ix 0x01#8) ∧
  decode [0xDD#8, 0xCB#8, 0x01#8, 0x37#8] = .ok (.sllMXyR .ix 0x01#8 .a) ∧
  decode [0xFD#8, 0xCB#8, 0x01#8, 0x3E#8] = .ok (.srlMXy .iy 0x01#8) ∧
  decode [0xFD#8, 0xCB#8, 0x01#8, 0x38#8] = .ok (.srlMXyR .iy 0x01#8 .b) ∧
  decode [0xDD#8, 0xCB#8, 0x05#8, 0x7E#8] = .ok (.bitBMXy .ix 0x05#8 7#3) ∧
  decode [0xDD#8, 0xCB#8, 0x05#8, 0x41#8] = .ok (.bitBMXyMirror .ix 0x05#8 0#3 .c) ∧
  decode [0xFD#8, 0xCB#8, 0x00#8, 0x8E#8] = .ok (.resBMXy .iy 0x00#8 1#3) ∧
  decode [0xFD#8, 0xCB#8, 0x00#8, 0x8A#8] = .ok (.resBMXyR .iy 0x00#8 1#3 .d) ∧
  decode [0xDD#8, 0xCB#8, 0x02#8, 0xC6#8] = .ok (.setBMXy .ix 0x02#8 0#3) ∧
  decode [0xDD#8, 0xCB#8, 0x02#8, 0xFD#8] = .ok (.setBMXyR .ix 0x02#8 7#3 .l) := by
  and_intros <;> rfl

/-- An empty list and a prefix without its opcode are no instruction: the decoder refuses them by name. -/
theorem test_decode_incomplete :
    decode [] = .error .bytesEnd ∧ decode [0x3E#8] = .error .bytesEnd ∧
    decode [0xDD#8, 0xCB#8, 0x02#8] = .error .bytesEnd := by
  and_intros <;> rfl

/-! ## WellFormed: an ill-formed term for each check -/

/-- y = 0 is NEG itself (R93). -/
theorem test_wf_neg_mirror : (Instr.negMirror 0#3).wf = false := rfl
/-- y = 0 is RETN and y = 1 is RETI (R93). -/
theorem test_wf_retn_mirror : (Instr.retnMirror 0#3).wf = false ∧ (Instr.retnMirror 1#3).wf = false := ⟨rfl, rfl⟩
/-- y = 0 is IM 0 itself, y = 2 is IM 1 and y = 6 its mirror (R75). -/
theorem test_wf_im0_mirror :
    (Instr.im0Mirror 0#3).wf = false ∧ (Instr.im0Mirror 2#3).wf = false ∧ (Instr.im0Mirror 6#3).wf = false :=
  ⟨rfl, rfl, rfl⟩
/-- ED 44 is NEG and ED B0 is LDIR (R93). -/
theorem test_wf_ed_hole : (Instr.edHole 0x44#8).wf = false ∧ (Instr.edHole 0xB0#8).wf = false := ⟨rfl, rfl⟩
/-- DD 64 and DD 6D move between halves, a row of their own (R95). -/
theorem test_wf_ld_r_half :
    (Instr.ldRXyHalf .ix .h .hi).wf = false ∧ (Instr.ldRXyHalf .iy .l .lo).wf = false := ⟨rfl, rfl⟩
/-- 21 is index-affected, CB, ED, DD and FD are prefix bytes (R86, R87). -/
theorem test_wf_prefix_not_used :
    (Instr.xyPrefixHlNotUsed .ix 0x21#8).wf = false ∧ (Instr.xyPrefixHlNotUsed .ix 0xCB#8).wf = false ∧
    (Instr.xyPrefixHlNotUsed .iy 0xED#8).wf = false ∧ (Instr.xyPrefixHlNotUsed .iy 0xDD#8).wf = false ∧
    (Instr.xyPrefixHlNotUsed .iy 0xFD#8).wf = false := ⟨rfl, rfl, rfl, rfl, rfl⟩
/-- A term that is an instruction. -/
theorem test_wf_accepts : (Instr.edHole 0x77#8).wf = true ∧ (Instr.xyPrefixHlNotUsed .ix 0xEB#8).wf = true := ⟨rfl, rfl⟩

/-! ## Single steps, with the vectors of spec/95_test_vectors.md -/

/-- ALU1. -/
theorem test_add_overflows :
    ends { code [0x80#8] with
        regs := { Regs.zero with a := 0x7F#8, b := 0x01#8 } }
      (fun t => t.regs.a == 0x80#8 && t.regs.f == 0x94#8 && t.pc == 0x0001#16 && t.budget == -4) = true := by
  decide

/-- ALU4. -/
theorem test_adc_takes_carry :
    ends { code [0x8F#8] with
        regs := { Regs.zero with a := 0x80#8, f := 0x01#8 } }
      (fun t => t.regs.a == 0x01#8 && t.regs.f == 0x05#8 && t.budget == -4) = true := by
  decide

/-- ALU5. -/
theorem test_sub_borrows :
    ends (code [0xD6#8, 0x01#8])
      (fun t => t.regs.a == 0xFF#8 && t.regs.f == 0xBB#8 && t.budget == -7) = true := by
  decide

/-- ALU6. -/
theorem test_sbc_overflows :
    ends { code [0xDE#8, 0x00#8] with
        regs := { Regs.zero with a := 0x80#8, f := 0x01#8 } }
      (fun t => t.regs.a == 0x7F#8 && t.regs.f == 0x3E#8 && t.pc == 0x0002#16) = true := by
  decide

/-- ALU9. -/
theorem test_cp_bits_of_operand :
    ends (code [0xFE#8, 0x28#8])
      (fun t => t.regs.a == 0x00#8 && t.regs.f == 0xBB#8) = true := by
  decide

/-- ALU10. -/
theorem test_neg_of_80 :
    ends { code [0xED#8, 0x44#8] with
        regs := { Regs.zero with a := 0x80#8 } }
      (fun t => t.regs.a == 0x80#8 && t.regs.f == 0x87#8 && t.r == 0x02#8 && t.budget == -8) = true := by
  decide

/-- ALU13. -/
theorem test_and_sets_half :
    ends { code [0xE6#8, 0x0F#8] with
        regs := { Regs.zero with a := 0xF3#8 } }
      (fun t => t.regs.a == 0x03#8 && t.regs.f == 0x14#8) = true := by
  decide

/-- ALU14. -/
theorem test_xor_clears :
    ends { code [0xAF#8] with
        regs := { Regs.zero with a := 0x5A#8, f := 0xFF#8 } }
      (fun t => t.regs.a == 0x00#8 && t.regs.f == 0x44#8) = true := by
  decide

/-- ALU15. -/
theorem test_or_parity :
    ends { code [0xF6#8, 0x80#8] with
        regs := { Regs.zero with a := 0x01#8, f := 0x01#8 } }
      (fun t => t.regs.a == 0x81#8 && t.regs.f == 0x84#8) = true := by
  decide

/-- ALU16. -/
theorem test_inc_keeps_carry :
    ends { code [0x3C#8] with
        regs := { Regs.zero with a := 0x7F#8, f := 0x01#8 } }
      (fun t => t.regs.a == 0x80#8 && t.regs.f == 0x95#8) = true := by
  decide

/-- ALU18. -/
theorem test_dec_overflows :
    ends { code [0x05#8] with
        regs := { Regs.zero with b := 0x80#8 } }
      (fun t => t.regs.b == 0x7F#8 && t.regs.f == 0x3E#8) = true := by
  decide

/-- ALU20. -/
theorem test_inc_memory :
    ends { (code [0x34#8]).placeBytes 0x4000#16 [0x0F#8] with
        regs := { Regs.zero with h := 0x40#8 } }
      (fun t => t.peek 0x4000#16 == 0x10#8 && t.regs.f == 0x10#8 && t.budget == -11) = true := by
  decide

/-- ALU21. -/
theorem test_dec_indexed_memory :
    ends { code [0xDD#8, 0x35#8, 0x03#8] with
        ix := 0x4000#16 }
      (fun t => t.peek 0x4003#16 == 0xFF#8 && t.regs.f == 0xBA#8 && t.r == 0x02#8 && t.budget == -23) = true := by
  decide

/-- ALU24. -/
theorem test_daa_wraps :
    ends { code [0x27#8] with
        regs := { Regs.zero with a := 0x9A#8 } }
      (fun t => t.regs.a == 0x00#8 && t.regs.f == 0x55#8) = true := by
  decide

/-- ALU25. -/
theorem test_cpl_bits_of_result :
    ends { code [0x2F#8] with
        regs := { Regs.zero with a := 0x5A#8 } }
      (fun t => t.regs.a == 0xA5#8 && t.regs.f == 0x32#8) = true := by
  decide

/-- ALU26. -/
theorem test_scf_bits_of_a :
    ends { code [0x37#8] with
        regs := { Regs.zero with a := 0x28#8, f := 0x12#8 } }
      (fun t => t.regs.f == 0x29#8) = true := by
  decide

/-- ALU27. -/
theorem test_ccf_moves_carry_to_half :
    ends { code [0x3F#8] with
        regs := { Regs.zero with f := 0x01#8 } }
      (fun t => t.regs.f == 0x10#8) = true := by
  decide

/-- ALU29. -/
theorem test_add_negative_displacement :
    ends { (code [0xDD#8, 0x86#8, 0xFF#8]).placeBytes 0x4000#16 [0x0F#8] with
        regs := { Regs.zero with a := 0x01#8 }, ix := 0x4001#16 }
      (fun t => t.regs.a == 0x10#8 && t.regs.f == 0x10#8 && t.budget == -19) = true := by
  decide

/-- ALU30. -/
theorem test_cp_index_half :
    ends { code [0xFD#8, 0xBD#8] with
        regs := { Regs.zero with a := 0x34#8 }, iy := 0x1234#16 }
      (fun t => t.regs.f == 0x62#8 && t.budget == -8) = true := by
  decide

/-- ROT1. -/
theorem test_rlca_keeps_szp :
    ends { code [0x07#8] with
        regs := { Regs.zero with a := 0x81#8, f := 0xC4#8 } }
      (fun t => t.regs.a == 0x03#8 && t.regs.f == 0xC5#8) = true := by
  decide

/-- ROT4. -/
theorem test_rra_through_carry :
    ends { code [0x1F#8] with
        regs := { Regs.zero with a := 0x01#8, f := 0x01#8 } }
      (fun t => t.regs.a == 0x80#8 && t.regs.f == 0x01#8) = true := by
  decide

/-- ROT7. -/
theorem test_rl_to_zero :
    ends { code [0xCB#8, 0x12#8] with
        regs := { Regs.zero with d := 0x80#8 } }
      (fun t => t.regs.d == 0x00#8 && t.regs.f == 0x45#8) = true := by
  decide

/-- ROT10. -/
theorem test_sra_keeps_sign :
    ends { code [0xCB#8, 0x2D#8] with
        regs := { Regs.zero with l := 0x81#8 } }
      (fun t => t.regs.l == 0xC0#8 && t.regs.f == 0x85#8) = true := by
  decide

/-- ROT11. -/
theorem test_sll_shifts_in_one :
    ends { code [0xCB#8, 0x37#8] with
        regs := { Regs.zero with a := 0x80#8 } }
      (fun t => t.regs.a == 0x01#8 && t.regs.f == 0x01#8) = true := by
  decide

/-- ROT13. -/
theorem test_rl_memory :
    ends { (code [0xCB#8, 0x16#8]).placeBytes 0x4000#16 [0x55#8] with
        regs := { Regs.zero with h := 0x40#8, f := 0x01#8 } }
      (fun t => t.peek 0x4000#16 == 0xAB#8 && t.regs.f == 0xA8#8 && t.budget == -15) = true := by
  decide

/-- ROT14. -/
theorem test_bit_7_sets_sign :
    ends { code [0xCB#8, 0x7C#8] with
        regs := { Regs.zero with h := 0x80#8 } }
      (fun t => t.regs.f == 0x90#8) = true := by
  decide

/-- ROT18b. -/
theorem test_bit_bits_of_address :
    ends { code [0xDD#8, 0xCB#8, 0x01#8, 0x46#8] with
        ix := 0x2800#16 }
      (fun t => t.regs.f == 0x7C#8 && t.budget == -20) = true := by
  decide

/-- ROT19. -/
theorem test_set_keeps_flags :
    ends { code [0xCB#8, 0xFE#8] with
        regs := { Regs.zero with h := 0x40#8, f := 0xD7#8 } }
      (fun t => t.peek 0x4000#16 == 0x80#8 && t.regs.f == 0xD7#8) = true := by
  decide

/-- ROT21. -/
theorem test_res_copies_to_register :
    ends { (code [0xFD#8, 0xCB#8, 0x00#8, 0x8A#8]).placeBytes 0x4000#16 [0xFF#8] with
        iy := 0x4000#16 }
      (fun t => t.peek 0x4000#16 == 0xFD#8 && t.regs.d == 0xFD#8 && t.regs.f == 0x00#8) = true := by
  decide

/-- ENC10. -/
theorem test_rlc_copies_to_register :
    ends { (code [0xDD#8, 0xCB#8, 0x02#8, 0x00#8]).placeBytes 0x4002#16 [0x81#8] with
        ix := 0x4000#16 }
      (fun t => t.regs.b == 0x03#8 && t.peek 0x4002#16 == 0x03#8 && t.regs.f == 0x05#8 && t.budget == -23) = true := by
  decide

/-- ROT22. -/
theorem test_rld_moves_digits :
    ends { (code [0xED#8, 0x6F#8]).placeBytes 0x4000#16 [0x34#8] with
        regs := { Regs.zero with a := 0x12#8, h := 0x40#8, f := 0x01#8 } }
      (fun t => t.regs.a == 0x13#8 && t.peek 0x4000#16 == 0x42#8 && t.regs.f == 0x01#8) = true := by
  decide

/-- ROT23. -/
theorem test_rrd_moves_digits :
    ends { (code [0xED#8, 0x67#8]).placeBytes 0x4000#16 [0x34#8] with
        regs := { Regs.zero with a := 0x12#8, h := 0x40#8 } }
      (fun t => t.regs.a == 0x14#8 && t.peek 0x4000#16 == 0x23#8 && t.regs.f == 0x04#8) = true := by
  decide

/-- ENC6. -/
theorem test_load_true_h :
    ends { (code [0xDD#8, 0x66#8, 0x01#8]).placeBytes 0x4001#16 [0x77#8] with
        regs := { Regs.zero with h := 0x11#8, l := 0x11#8 }, ix := 0x4000#16 }
      (fun t => t.regs.h == 0x77#8 && t.regs.l == 0x11#8 && t.ix == 0x4000#16) = true := by
  decide

/-- ENC7. -/
theorem test_load_half_from_half :
    ends { code [0xDD#8, 0x65#8] with
        ix := 0x12AB#16 }
      (fun t => t.ix == 0xABAB#16 && t.r == 0x02#8 && t.budget == -8) = true := by
  decide

/-- ENC20. -/
theorem test_store_immediate_indexed :
    ends { code [0xDD#8, 0x36#8, 0xFE#8, 0x42#8] with
        ix := 0x4002#16 }
      (fun t => t.peek 0x4000#16 == 0x42#8 && t.pc == 0x0004#16 && t.budget == -19) = true := by
  decide

/-- LD15. -/
theorem test_ld_a_i_reads_iff1 :
    ends { code [0xED#8, 0x57#8] with
        iff1 := true }
      (fun t => t.regs.a == 0x00#8 && t.regs.f == 0x44#8 && t.budget == -9) = true := by
  decide

/-- LD16. -/
theorem test_ld_a_r_counts_first :
    ends { code [0xED#8, 0x5F#8] with
        r := 0x7E#8, iff1 := true }
      (fun t => t.regs.a == 0x00#8 && t.r == 0x00#8 && t.regs.f == 0x44#8) = true := by
  decide

/-- LD13. -/
theorem test_ld_r_a_after_count :
    ends { code [0xED#8, 0x4F#8] with
        regs := { Regs.zero with a := 0x85#8 } }
      (fun t => t.r == 0x85#8) = true := by
  decide

/-- LD20. -/
theorem test_store_pair_wraps :
    ends { code [0xDD#8, 0x22#8, 0xFF#8, 0xFF#8] with
        ix := 0x1234#16 }
      (fun t => t.peek 0xFFFF#16 == 0x34#8 && t.peek 0x0000#16 == 0x12#8 && t.budget == -20) = true := by
  decide

/-- LD25. -/
theorem test_push_wraps :
    ends { code [0xF5#8] with
        regs := { Regs.zero with a := 0xAB#8, f := 0xCD#8 } }
      (fun t => t.sp == 0xFFFE#16 && t.peek 0xFFFE#16 == 0xCD#8 && t.peek 0xFFFF#16 == 0xAB#8 && t.budget == -11) = true := by
  decide

/-- LD26. -/
theorem test_pop_af_whole :
    ends { (code [0xF1#8]).placeBytes 0x7FFE#16 [0xD7#8, 0x5A#8] with
        sp := 0x7FFE#16 }
      (fun t => t.regs.a == 0x5A#8 && t.regs.f == 0xD7#8 && t.sp == 0x8000#16) = true := by
  decide

/-- LD31. -/
theorem test_ex_sp_keeps_sp :
    ends { (code [0xE3#8]).placeBytes 0x8000#16 [0x78#8, 0x56#8] with
        regs := { Regs.zero with h := 0x12#8, l := 0x34#8 }, sp := 0x8000#16 }
      (fun t => t.regs.h == 0x56#8 && t.regs.l == 0x78#8 && t.peek 0x8000#16 == 0x34#8 &&
        t.peek 0x8001#16 == 0x12#8 && t.sp == 0x8000#16) = true := by
  decide

/-- BLK1. -/
theorem test_ldi_bits_of_sum :
    ends { (code [0xED#8, 0xA0#8]).placeBytes 0x4000#16 [0x0A#8] with
        regs := { Regs.zero with h := 0x40#8, d := 0x50#8, c := 0x01#8, f := 0xC1#8 } }
      (fun t => t.regs.f == 0xE9#8 && t.peek 0x5000#16 == 0x0A#8 && t.regs.c == 0x00#8 &&
        t.regs.l == 0x01#8 && t.regs.e == 0x01#8 && t.budget == -16) = true := by
  decide

/-- BLK4. -/
theorem test_ldir_repeats :
    ends { (code [0xED#8, 0xB0#8]).placeBytes 0x4000#16 [0x11#8, 0x22#8] with
        regs := { Regs.zero with h := 0x40#8, d := 0x50#8, c := 0x02#8 } }
      (fun t => t.pc == 0x0000#16 && t.regs.c == 0x01#8 && t.regs.f == 0x04#8 && t.budget == -21) = true := by
  decide

/-- BLK8. -/
theorem test_cpi_finds :
    ends { (code [0xED#8, 0xA1#8]).placeBytes 0x4000#16 [0x3C#8] with
        regs := { Regs.zero with h := 0x40#8, c := 0x01#8, a := 0x3C#8, f := 0x01#8 } }
      (fun t => t.regs.f == 0x43#8 && t.regs.c == 0x00#8 && t.pc == 0x0002#16) = true := by
  decide

/-- BLK10. -/
theorem test_cpd_borrows :
    ends { (code [0xED#8, 0xA9#8]).placeBytes 0x4000#16 [0x01#8] with
        regs := { Regs.zero with h := 0x40#8, c := 0x02#8 } }
      (fun t => t.regs.f == 0xBE#8 && t.regs.h == 0x3F#8 && t.regs.l == 0xFF#8) = true := by
  decide

/-- BLK16. -/
theorem test_outi_flags :
    ends { (code [0xED#8, 0xA3#8]).placeBytes 0x4000#16 [0xFA#8] with
        regs := { Regs.zero with b := 0x01#8, c := 0x07#8, h := 0x40#8 } }
      (fun t => t.regs.f == 0x46#8 && t.regs.b == 0x00#8 && t.regs.c == 0x07#8 && t.regs.l == 0x01#8) = true := by
  decide

/-- BLK17. -/
theorem test_outd_flags :
    ends { (code [0xED#8, 0xAB#8]).placeBytes 0x4001#16 [0x01#8] with
        regs := { Regs.zero with b := 0x03#8, c := 0x07#8, h := 0x40#8, l := 0x01#8 } }
      (fun t => t.regs.f == 0x04#8 && t.regs.b == 0x02#8 && t.regs.l == 0x00#8) = true := by
  decide

/-- CTL9. -/
theorem test_jr_wraps :
    ends (code [0x18#8, 0x80#8])
      (fun t => t.pc == 0xFF82#16 && t.budget == -12) = true := by
  decide

/-- CTL10. -/
theorem test_jr_not_taken :
    ends { code [0x30#8, 0x10#8] with
        regs := { Regs.zero with f := 0x01#8 } }
      (fun t => t.pc == 0x0002#16 && t.budget == -7) = true := by
  decide

/-- CTL15. -/
theorem test_djnz_from_zero :
    ends (code [0x10#8, 0xFE#8])
      (fun t => t.regs.b == 0xFF#8 && t.pc == 0x0000#16 && t.budget == -13) = true := by
  decide

/-- CTL16. -/
theorem test_call_pushes_next :
    ends { code [0xCD#8, 0x00#8, 0x20#8] with
        sp := 0x8000#16 }
      (fun t => t.sp == 0x7FFE#16 && t.pc == 0x2000#16 && t.peek 0x7FFE#16 == 0x03#8 &&
        t.peek 0x7FFF#16 == 0x00#8 && t.budget == -17) = true := by
  decide

/-- CTL17. -/
theorem test_call_not_taken :
    ends { code [0xCC#8, 0x00#8, 0x20#8] with
        sp := 0x8000#16 }
      (fun t => t.sp == 0x8000#16 && t.pc == 0x0003#16 && t.budget == -10) = true := by
  decide

/-- CTL21. -/
theorem test_ret_cc_taken :
    ends { (code [0xF0#8]).placeBytes 0x7FFE#16 [0x03#8, 0x10#8] with
        sp := 0x7FFE#16 }
      (fun t => t.pc == 0x1003#16 && t.sp == 0x8000#16 && t.budget == -11) = true := by
  decide

/-- CTL23. -/
theorem test_rst_target :
    ends { code [0xD7#8] with
        sp := 0x8000#16 }
      (fun t => t.pc == 0x0010#16 && t.peek 0x7FFE#16 == 0x01#8) = true := by
  decide

/-- CTL24. -/
theorem test_retn_restores_iff0 :
    ends { (code [0xED#8, 0x45#8]).placeBytes 0x7FFE#16 [0x00#8, 0x10#8] with
        sp := 0x7FFE#16, iff1 := true }
      (fun t => t.pc == 0x1000#16 && t.iff0 && t.iff1 && t.budget == -14) = true := by
  decide

/-- CTL25. -/
theorem test_reti_restores_iff0 :
    ends { (code [0xED#8, 0x4D#8]).placeBytes 0x7FFE#16 [0x00#8, 0x10#8] with
        sp := 0x7FFE#16, iff1 := true }
      (fun t => t.pc == 0x1000#16 && t.iff0) = true := by
  decide

/-- IO2. -/
theorem test_in_without_device :
    ends { code [0xDB#8, 0x1F#8] with
        regs := { Regs.zero with a := 0x00#8, f := 0xFF#8 } }
      (fun t => t.regs.a == 0x00#8 && t.regs.f == 0xFF#8 && t.budget == -11) = true := by
  decide

/-- IO4. -/
theorem test_in_b_sets_flags :
    ends { code [0xED#8, 0x40#8] with
        regs := { Regs.zero with b := 0x12#8, c := 0xFE#8, f := 0x01#8 } }
      (fun t => t.regs.b == 0x00#8 && t.regs.f == 0x45#8) = true := by
  decide

/-- CPU1. -/
theorem test_halt_stays_after :
    ends (code [0x76#8])
      (fun t => t.pc == 0x0001#16 && t.halted && t.budget == -4) = true := by
  decide

/-- CPU4. -/
theorem test_ei_sets_both :
    ends (code [0xFB#8])
      (fun t => t.iff0 && t.iff1) = true := by
  decide

/-- CPU7. -/
theorem test_im2_sets_mode :
    ends (code [0xED#8, 0x5E#8])
      (fun t => t.im == .im2) = true := by
  decide

/-- ENC14. -/
theorem test_hole_halts :
    ends (code [0xED#8, 0x77#8])
      (fun t => t.halted && t.pc == 0x0002#16 && t.r == 0x02#8) = true := by
  decide

/-- ENC2: DD before an opcode that does not use HL is one step of the model, the NOP the next; 8 cycles in all. -/
theorem test_prefix_then_nop :
    ends (code [0xDD#8, 0x00#8]) (fun t => t.pc == 0x0001#16 && t.xySel == .ix && t.budget == -4 &&
      ends t (fun u => u.pc == 0x0002#16 && u.xySel == .hl && u.r == 0x02#8 && u.budget == -8)) = true := by
  decide

/-- ENC3: the last of several index prefixes is the one that counts. -/
theorem test_last_prefix_wins :
    ends (code [0xDD#8, 0xFD#8, 0x21#8, 0x34#8]) (fun t =>
      ends (t.placeBytes 0x0004#16 [0x12#8]) (fun u => u.iy == 0x1234#16 && u.ix == 0x0000#16 && u.pc == 0x0005#16 &&
        u.r == 0x03#8 && u.budget == -18)) = true := by
  decide

/-- ENC11: DD before ED takes no part; three bytes, three counts of R, 12 cycles. -/
theorem test_prefix_before_ed :
    ends { code [0xDD#8, 0xED#8, 0x44#8] with regs := { Regs.zero with a := 0x01#8 } } (fun t =>
      ends t (fun u => u.regs.a == 0xFF#8 && u.regs.f == 0xBB#8 && u.r == 0x03#8 && u.budget == -12)) = true := by
  decide

/-- ENC16: under UNDOC_OPCODES = unknown a half load halts and reports the event (DD, 65), and IX is unchanged. -/
theorem test_half_load_unknown :
    ends { code [0xDD#8, 0x65#8] with ix := 0x12AB#16, params := { Params.default with undocOpcodes := .unknown } }
      (fun t => t.halted && t.ix == 0x12AB#16 && t.diag == [{ table := .dd, opcode := 0x65#8 }]) = true := by
  decide

/-- ENC17: under BLOCK_IO = unknown INI halts and reads no port. -/
theorem test_ini_unknown :
    ends { code [0xED#8, 0xA2#8] with
        regs := { Regs.zero with b := 0x01#8, c := 0x10#8 }, params := { Params.default with blockIo := .unknown } }
      (fun t => t.halted && t.regs.b == 0x01#8 && t.diag == [{ table := .ed, opcode := 0xA2#8 }]) = true := by
  decide

/-- The machine of the interrupt vectors: PC = 1234H, SP = 8000H, both flip-flops set, `run(0)` the next act. -/
def awaiting : State :=
  { State.reset with pc := 0x1234#16, sp := 0x8000#16, iff0 := true, iff1 := true, host := [.run 0#32] }

/-- INT1: mode 1 enters at 0038H with the old PC on the stack and both flip-flops clear. -/
theorem test_int_mode_1 :
    ends { awaiting with im := .im1, irqPending := true } (fun t =>
      t.pc == 0x0038#16 && t.sp == 0x7FFE#16 && t.peek 0x7FFE#16 == 0x34#8 && t.peek 0x7FFF#16 == 0x12#8 &&
      t.r == 0x01#8 && !t.iff0 && !t.iff1 && !t.irqPending) = true := by
  decide

/-- INT4: the NMI comes first, the maskable interrupt stays pending, IFF1 keeps the old IFF0. -/
theorem test_int_nmi_first :
    ends { awaiting with im := .im1, irqPending := true, nmiPending := true } (fun t =>
      t.pc == 0x0066#16 && !t.iff0 && t.iff1 && !t.nmiPending && t.irqPending) = true := by
  decide

/-- INT8: mode 2 under INT_VECTOR_MODEL = hardware reads its target at I : data-bus byte. -/
theorem test_int_mode_2_hardware :
    ends { awaiting.placeBytes 0x80FE#16 [0x00#8, 0x90#8] with
        im := .im2, i := 0x80#8, irqPending := true, inputs := [0xFE#8]
        params := { Params.default with intVectorModel := .hardware } }
      (fun t => t.pc == 0x9000#16 && t.sp == 0x7FFE#16) = true := by
  decide

/-- INT10: mode 0 with a data-bus byte that is no RST is refused. -/
theorem test_int_mode_0_refused :
    refuses { awaiting with
        irqPending := true, inputs := [0x00#8], params := { Params.default with intVectorModel := .hardware } }
      .im0NotRst = true := by
  decide

/-- CPU14 and CPU12: `run` adds its allowance to the budget, and a halted core drains it. -/
theorem test_run_entry_and_drain :
    ends { State.reset with budget := -3, host := [.run 5#32] } (fun t => t.budget == 2 && t.phase == .budgeted) = true ∧
    ends { State.reset with halted := true, budget := 50, phase := .budgeted }
      (fun t => t.budget == 0 && t.phase == .idle && t.pc == 0x0000#16) = true := by
  decide

/-- W7: a store to a read-only region is dropped, a store to a read-write region is not. -/
theorem test_rom_and_ram :
    ends { (code [0x32#8, 0x00#8, 0x01#8]) with
        regions := [{ base := 0x0000#16, size := 0x4000, kind := .ro }, { base := 0x4000#16, size := 0xC000, kind := .rw }]
        regs := { Regs.zero with a := 0x5A#8 } } (fun t => t.peek 0x0100#16 == 0x00#8) = true ∧
    ends { (code [0x32#8, 0x00#8, 0x40#8]) with
        regions := [{ base := 0x0000#16, size := 0x4000, kind := .ro }, { base := 0x4000#16, size := 0xC000, kind := .rw }]
        regs := { Regs.zero with a := 0x5A#8 } } (fun t => t.peek 0x4000#16 == 0x5A#8 && t.mem.getLast? == some (0x10000, 0x5A#8)) = true := by
  decide

/-- R244, R21: a flag write changes one bit of F, a registered buffer is what its region reads, and a change of a byte past
a region's size changes nothing. -/
theorem test_host_acts :
    ends { State.reset with regs := { Regs.zero with f := 0x40#8 }, host := [.setFlag .pv true] }
      (fun t => t.regs.f == 0x44#8) = true ∧
    ends { State.reset with regions := [], host := [.registerRegion 0x4000#16 2 .ro [0x11#8, 0x22#8, 0x33#8]] }
      (fun t => t.peek 0x4001#16 == 0x22#8 && t.peek 0x4002#16 == 0x00#8) = true ∧
    ends { State.reset with regions := [{ base := 0x4000#16, size := 2, kind := .ro }], host := [.pokeBuffer 0 1 0x77#8] }
      (fun t => t.peek 0x4001#16 == 0x77#8) = true ∧
    ends { State.reset with regions := [{ base := 0x4000#16, size := 2, kind := .ro }], host := [.pokeBuffer 0 2 0x77#8] }
      (fun t => t.mem == []) = true := by
  decide

/-- R246: resuming a snapshot pops PC and copies IFF0 into IFF1. -/
theorem test_resume_snapshot :
    ends { (State.reset.placeBytes 0x8000#16 [0x34#8, 0x12#8]) with sp := 0x8000#16, iff0 := true, host := [.resumeSnapshot] }
      (fun t => t.pc == 0x1234#16 && t.sp == 0x8002#16 && t.iff1 && t.bus == []) = true := by
  decide

/-- CTL2 and CTL3: JP NZ costs 10 taken or not; an entry of CYCLE_COST (R9) with an extra of 3 charges it when taken only. -/
theorem test_jp_cc_extra :
    ends (code [0xC2#8, 0x34#8, 0x12#8]) (fun t => t.pc == 0x1234#16 && t.budget == -10) = true ∧
    (let p := { Params.default with cycleCost := [{ row := (Instr.jpCcNn .nz 0x1234#16).row, base := 10, extra := 3 }] }
     ends { code [0xC2#8, 0x34#8, 0x12#8] with params := p } (fun t => t.budget == -13) = true ∧
     ends { code [0xC2#8, 0x34#8, 0x12#8] with params := p, regs := { Regs.zero with f := 0x40#8 } }
       (fun t => t.budget == -10) = true) := by
  decide

/-- W9: reset zeroes the registers and the flip-flops and leaves memory alone. -/
theorem test_reset_act :
    ends { (State.reset.placeBytes 0x4000#16 [0x77#8]) with
        regs := { Regs.zero with a := 0x12#8 }, pc := 0x5555#16, im := .im2, iff0 := true, halted := true, budget := -7
        irqPending := true, host := [.reset] }
      (fun t => t.regs.a == 0x00#8 && t.pc == 0x0000#16 && t.im == .im0 && !t.iff0 && !t.halted && t.budget == 0 &&
        !t.irqPending && t.peek 0x4000#16 == 0x77#8) = true := by
  decide

/-- The table numbers CB 86 as one number, its first byte the most significant (R92, opcode_table.json). -/
theorem test_table_words :
    decodeTableWord 16 0xCB86 = some (.resBMHl 0#3) ∧ decodeTableWord 8 0x76 = some .halt ∧
    decodeTableWord 8 0x01 = some (.ldRpNn .bc 0x0000#16) := by
  decide

/-- A placed word is what the next step runs. -/
theorem test_with_fetch_word : ends (State.reset.withFetchWord 8 0x3C) (fun t => t.regs.a == 0x01#8) = true := by
  decide

/-! ## Witnesses: for every statement with hypotheses, a state and operands that meet them -/

open Sys2Proof.Claims

/-- The state after reset has its memory in canonical form: every statement that assumes no more (O18, O23, O24, O26,
O32, O35, O37, O38, O40, O44). -/
theorem witness_memory_wf : Memory.wf State.reset.mem = true ∧ Memory.wf (code [0x12#8, 0x34#8]).mem = true := by
  decide

/-- O2: well-formed instructions that are no prefix byte alone. -/
theorem witness_DecodeOfEncode :
    (Instr.retnMirror 2#3).wf = true ∧ (Instr.retnMirror 2#3) ≠ .prefixCb ∧ (Instr.retnMirror 2#3) ≠ .prefixEd ∧
    (Instr.retnMirror 2#3) ≠ .prefixDd ∧ (Instr.retnMirror 2#3) ≠ .prefixFd ∧
    (Instr.setBMXyR .iy 0xFF#8 7#3 .a).wf = true ∧ (Instr.prefixDd).wf = true := by
  decide

/-- O3: a list of bytes the decoder reads, with a rest. -/
theorem witness_EncodeOfDecode : decode [0xFD#8, 0x36#8, 0xFF#8, 0x80#8, 0x00#8] = .ok (.ldMXyN .iy 0xFF#8 0x80#8) := rfl

/-- O4: one list for each length of R99. -/
theorem witness_LengthAndFetchCounts :
    decode [0xCB#8, 0xFF#8, 0x00#8, 0x00#8] = .ok (.setBR 7#3 .a) ∧
    decode [0xED#8, 0x7B#8, 0xFF#8, 0xFF#8] = .ok (.ldRpMNn .sp 0xFFFF#16) ∧
    decode [0xED#8, 0xBB#8, 0x00#8, 0x00#8] = .ok .otdr ∧
    decode [0xDD#8, 0xCB#8, 0x80#8, 0xFE#8] = .ok (.setBMXy .ix 0x80#8 7#3) ∧
    decode [0xDD#8, 0x36#8, 0x80#8, 0xFF#8] = .ok (.ldMXyN .ix 0x80#8 0xFF#8) ∧
    decode [0xFD#8, 0x21#8, 0x00#8, 0x00#8] = .ok (.ldXyNn .iy 0x0000#16) ∧
    decode [0xFD#8, 0x00#8, 0x00#8, 0x00#8] = .ok (.xyPrefixHlNotUsed .iy 0x00#8) ∧
    decode [0xFC#8, 0x00#8, 0x00#8, 0x00#8] = .ok (.callCcNn .m 0x0000#16) ∧
    decode [0x38#8, 0x00#8, 0x00#8, 0x00#8] = .ok (.jrCc .c 0x00#8) := by
  and_intros <;> rfl

/-- Every form and mode the parameters can leave unknown. -/
def bareParams : Params := { Params.default with undocOpcodes := .unknown, blockIo := .unknown }

/-- O4: a list for each row of R97's table, unknown under `bareParams`, and what is consumed of it by R224. -/
theorem witness_LengthAndFetchCounts_unknown :
    (decode [0xDD#8, 0x26#8, 0xFF#8, 0x00#8] = .ok (.ldXyHalfN .ix .hi 0xFF#8) ∧
      unknownOf bareParams 0xDD#8 0x26#8 0x00#8 = true ∧ consumedOf bareParams 0xDD#8 0x26#8 0x00#8 = 2 ∧
      consumedOf Params.default 0xDD#8 0x26#8 0x00#8 = 3) ∧
    (decode [0xFD#8, 0xCB#8, 0x80#8, 0xFF#8] = .ok (.setBMXyR .iy 0x80#8 7#3 .a) ∧
      unknownOf bareParams 0xFD#8 0xCB#8 0xFF#8 = true ∧ consumedOf bareParams 0xFD#8 0xCB#8 0xFF#8 = 4) ∧
    unknownOf bareParams 0xFD#8 0xCB#8 0xFE#8 = false ∧
    (decode [0xED#8, 0x71#8, 0x00#8, 0x00#8] = .ok .outC0 ∧ unknownOf bareParams 0xED#8 0x71#8 0x00#8 = true) ∧
    (decode [0xED#8, 0xBB#8, 0x00#8, 0x00#8] = .ok .otdr ∧ unknownOf bareParams 0xED#8 0xBB#8 0x00#8 = true) ∧
    (decode [0xED#8, 0x7F#8, 0x00#8, 0x00#8] = .ok (.edHole 0x7F#8) ∧
      unknownOf Params.default 0xED#8 0x7F#8 0x00#8 = true ∧ consumedOf Params.default 0xED#8 0x7F#8 0x00#8 = 2) ∧
    (prefixAlone 0xDD#8 0x00#8 = true ∧ prefixAlone 0xDD#8 0x26#8 = false ∧ prefixAlone 0xFD#8 0xCB#8 = false) ∧
    prefixesOf 0xDD#8 = 1 ∧ prefixesOf 0xED#8 = 0 := by
  and_intros <;> first | rfl | decide

/-- O5: one list for each cost table of R256. -/
theorem witness_CostsOfTheForms :
    (decode [0xFF#8, 0x00#8, 0x00#8, 0x00#8] = .ok (.rst 7#3) ∧ (0xFF#8 : Byte) ≠ 0xCB#8 ∧ (0xFF#8 : Byte) ≠ 0xED#8 ∧
      (0xFF#8 : Byte) ≠ 0xDD#8 ∧ (0xFF#8 : Byte) ≠ 0xFD#8) ∧
    decode [0xCB#8, 0x46#8, 0x00#8, 0x00#8] = .ok (.bitBMHl 0#3) ∧
    decode [0xED#8, 0x80#8, 0x00#8, 0x00#8] = .ok (.edHole 0x80#8) ∧
    (decode [prefixByte .ix, 0x34#8, 0x00#8, 0x00#8] = .ok (.incMXy .ix 0x00#8) ∧ (0x34#8 : Byte) ≠ 0xCB#8) ∧
    decode [prefixByte .iy, 0xCB#8, 0x00#8, 0x40#8] = .ok (.bitBMXyMirror .iy 0x00#8 0#3 .b) := by
  and_intros <;> first | rfl | decide

/-- A state at a boundary of `run(-1)`, whatever its budget. -/
theorem witness_Ready_untilHalt : Ready { code [0x80#8] with budget := -7 } := by
  unfold Ready inRun; decide

/-- A state at a boundary of a budget run, with one cycle left. -/
theorem witness_Ready_budgeted : Ready { code [0x80#8] with phase := .budgeted, budget := 1 } := by
  unfold Ready inRun; decide

/-- O6: the state goes on, its bytes are ADD A,B; prefix bytes and others; budgets at and past the range's ends. -/
theorem witness_StepRunsDecodedInstruction :
    (Ready (code [0x80#8]) ∧
      decode [(code [0x80#8]).peek 0x0000#16, (code [0x80#8]).peek 0x0001#16, (code [0x80#8]).peek 0x0002#16,
        (code [0x80#8]).peek 0x0003#16] = .ok (.addAR .b)) ∧
    (code [0x80#8]).pc = 0x0000#16 ∧
    Instr.isPrefix .prefixCb = true ∧ Instr.isPrefix (.addAR .b) = false ∧
    InRange (-2147483648) ∧ InRange 2147483647 ∧ ¬ InRange (-2147483649) ∧ ¬ InRange 2147483648 := by
  unfold Ready inRun InRange
  exact ⟨⟨by decide, rfl⟩, by decide⟩

/-- A state between a DD byte and the rest of its instruction. -/
def afterDd (bytes : List Byte) : State := { code bytes with xySel := .ix }

/-- O9 (1) and (2): at a boundary and after a prefix byte, the next byte FD and after it a byte that does not take it. -/
theorem witness_IndexPrefixSteps_select :
    (inRun (code [0xFD#8, 0xDD#8]) ∧ (code [0xFD#8, 0xDD#8]).pfx = .none ∧ Ready (code [0xFD#8, 0xDD#8]) ∧
      (code [0xFD#8, 0xDD#8]).peek 0x0000#16 = prefixByte .iy ∧ (code [0xFD#8, 0xDD#8]).peek 0x0001#16 = 0xDD#8) ∧
    (inRun (afterDd [0xFD#8, 0x00#8]) ∧ (afterDd [0xFD#8, 0x00#8]).pfx = .none ∧
      (afterDd [0xFD#8, 0x00#8]).midInstr = true ∧ (afterDd [0xFD#8, 0x00#8]).peek 0x0000#16 = prefixByte .iy ∧
      (afterDd [0xFD#8, 0x00#8]).peek 0x0001#16 ≠ 0xCB#8 ∧
      affected ((afterDd [0xFD#8, 0x00#8]).peek 0x0001#16) = false) := by
  unfold Ready inRun; decide

/-- O9 (3): after DD, the bytes 24 (index-affected) and CB. -/
theorem witness_IndexPrefixSteps_takes :
    (inRun (afterDd [0x24#8]) ∧ (afterDd [0x24#8]).pfx = .none ∧ (afterDd [0x24#8]).xySel = selector .ix ∧
      affected ((afterDd [0x24#8]).peek 0x0000#16) = true ∧
      decode [prefixByte .ix, (afterDd [0x24#8]).peek 0x0000#16, (afterDd [0x24#8]).peek 0x0001#16,
        (afterDd [0x24#8]).peek 0x0002#16, (afterDd [0x24#8]).peek 0x0003#16] = .ok (.incXyHalf .ix .hi)) ∧
    (inRun (afterDd [0xCB#8, 0x01#8, 0xC6#8]) ∧ (afterDd [0xCB#8, 0x01#8, 0xC6#8]).peek 0x0000#16 = 0xCB#8 ∧
      decode [prefixByte .ix, (afterDd [0xCB#8, 0x01#8, 0xC6#8]).peek 0x0000#16,
        (afterDd [0xCB#8, 0x01#8, 0xC6#8]).peek 0x0001#16, (afterDd [0xCB#8, 0x01#8, 0xC6#8]).peek 0x0002#16,
        (afterDd [0xCB#8, 0x01#8, 0xC6#8]).peek 0x0003#16] = .ok (.setBMXy .ix 0x01#8 0#3)) := by
  refine ⟨⟨?_, ?_, ?_, ?_, ?_⟩, ?_, ?_, ?_⟩ <;> first | rfl | (unfold inRun; decide)

/-- O9 (4): after DD, the byte 00, which does not take the prefix. -/
theorem witness_IndexPrefixSteps_ignores :
    inRun (afterDd [0x00#8]) ∧ (afterDd [0x00#8]).pfx = .none ∧ (afterDd [0x00#8]).xySel = selector .ix ∧
    affected ((afterDd [0x00#8]).peek 0x0000#16) = false ∧ (afterDd [0x00#8]).peek 0x0000#16 ≠ 0xCB#8 ∧
    decode [(afterDd [0x00#8]).peek 0x0000#16, (afterDd [0x00#8]).peek 0x0001#16, (afterDd [0x00#8]).peek 0x0002#16,
      (afterDd [0x00#8]).peek 0x0003#16] = .ok .nop := by
  refine ⟨?_, ?_, ?_, ?_, ?_, ?_⟩ <;> first | rfl | decide | (unfold inRun; decide)

/-- The machine with no region, every address reading DD (R47). -/
def allDd : State :=
  { State.reset with phase := .budgeted, budget := 1, regions := [], params := { Params.default with unmappedRead := 0xDD#8 } }

/-- O10: every address reads DD, in a run that goes on, and after a first DD whatever the budget. -/
theorem witness_EndlessPrefixesNeverEnd :
    (inRun allDd ∧ allDd.pfx = .none ∧ Ready allDd ∧ ∀ a : Word, allDd.peek a = 0xDD#8 ∨ allDd.peek a = 0xFD#8) ∧
    (let s := { allDd with budget := -1000, xySel := .ix }
     inRun s ∧ s.pfx = .none ∧ s.midInstr = true ∧ ∀ a : Word, s.peek a = 0xDD#8 ∨ s.peek a = 0xFD#8) := by
  refine ⟨⟨?_, rfl, ?_, fun a => .inl rfl⟩, ?_, rfl, rfl, fun a => .inl rfl⟩ <;>
    first | (unfold Ready inRun; decide) | (unfold inRun; decide)

/-- O11: at a boundary a halted core, a budget of 0 exactly, a budget of 1, until-halt mode; and a core after a DD byte. -/
theorem witness_RunReturns :
    (let s := { State.reset with phase := .untilHalt, halted := true, budget := 50 }
     inRun s ∧ s.midInstr = false ∧ s.halted = true) ∧
    (let s := { State.reset with phase := .budgeted }
     inRun s ∧ s.midInstr = false ∧ s.halted = false ∧ s.phase = .budgeted ∧ s.budget ≤ 0) ∧
    (let s := { State.reset with phase := .budgeted, budget := 1 }
     inRun s ∧ s.midInstr = false ∧ s.halted = false ∧ 0 < s.budget ∧ ends s (fun _ => true) = true) ∧
    (let s := { State.reset with phase := .untilHalt, budget := -5 }
     inRun s ∧ s.midInstr = false ∧ s.halted = false ∧ s.phase = .untilHalt ∧ ends s (fun _ => true) = true) ∧
    (let s := { afterDd [0x24#8] with phase := .budgeted, budget := -5, halted := true }
     inRun s ∧ s.midInstr = true ∧ ends s (fun t => t.phase == .budgeted) = true) := by
  unfold inRun; decide

/-- O12: `run` with a negative, a zero and the largest allowance, and one whose sum leaves the range; a budget at the
range's end that an acceptance's cost takes out of it, after the check. -/
theorem witness_RunEntryOrder :
    (let s := { State.reset with host := [.run 0x80000000#32] }
     s.phase = .idle ∧ s.host = .run 0x80000000#32 :: [] ∧ (0x80000000#32).toInt < 0 ∧ InRange s.budget) ∧
    (let s := { State.reset with host := [.run 0#32] }
     s.host = .run 0#32 :: [] ∧ ¬ (0#32).toInt < 0 ∧ InRange (s.budget + (0#32).toInt)) ∧
    (let s := { State.reset with host := [.run 0x7FFFFFFF#32], budget := 1 }
     s.host = .run 0x7FFFFFFF#32 :: [] ∧ ¬ (0x7FFFFFFF#32).toInt < 0 ∧ ¬ InRange (s.budget + (0x7FFFFFFF#32).toInt)) ∧
    (let s := { State.reset with
      host := [.run 0#32], budget := -2147483648, nmiPending := true
      params := { Params.default with intAcceptCost := { nmi := 1, im0 := 0, im1 := 0, im2 := 0 } } }
     s.phase = .idle ∧ s.host = .run 0#32 :: [] ∧ InRange (s.budget + (0#32).toInt) ∧
     refuses s .budgetRange = true) ∧
    (State.reset.phase = .idle ∧ State.reset.host = []) := by
  unfold InRange; decide

/-- O17: the mirrors' fields. -/
theorem witness_NegateAccumulator : (1#3 : BitVec 3) ≠ 0 ∧ (7#3 : BitVec 3) ≠ 0 := by decide

/-- O20: two decimal bytes. -/
theorem witness_DecimalArithmetic : isBcd 0x99#8 = true ∧ isBcd 0x01#8 = true ∧ isBcd 0x00#8 = true := by decide

/-- O30: the registers the half loads name. -/
theorem witness_RegisterLoads : Reg8.a ≠ .h ∧ Reg8.a ≠ .l := by decide

/-- O33: both values of R_MODEL. -/
theorem witness_InterruptAndRefreshLoads :
    State.reset.params.rModel = .m1 ∧
    { State.reset with params := { Params.default with rModel := .draw } }.params.rModel = .draw := ⟨rfl, rfl⟩

/-- The machine with LDIR at 0000H, BC = 2, HL = 4000H, DE = 5000H. -/
def copying : State :=
  { (code [0xED#8, 0xB0#8]) with
    regs := { Regs.zero with b := 0x00#8, c := 0x02#8, h := 0x40#8, l := 0x00#8, d := 0x50#8, e := 0x00#8 } }

/-- O42: two bytes to copy between blocks that are apart and away from the instruction, in both modes. -/
theorem witness_LdirCopiesBlock :
    Memory.wf copying.mem = true ∧ (copying.phase = .untilHalt ∧ -2000000000 ≤ copying.budget) ∧
    (let s := { copying with phase := .budgeted, budget := 22 }
     s.phase = .budgeted ∧ ((21 * (2 - 1) : Nat) : Int) < s.budget ∧ s.budget ≤ 2147483647) ∧
    copying.budget ≤ 2147483647 ∧ copying.boundary = true ∧ copying.halted = false ∧
    copying.params.cycleCost = [] ∧ copying.peek copying.pc = 0xED#8 ∧ copying.peek (copying.pc + 1) = 0xB0#8 ∧
    bc copying = BitVec.ofNat 16 2 ∧
    (∀ k, k < 2 → writable copying (de copying + BitVec.ofNat 16 k) = true) ∧
    (∀ k, k < 2 → de copying + BitVec.ofNat 16 k ≠ copying.pc ∧ de copying + BitVec.ofNat 16 k ≠ copying.pc + 1) ∧
    (∀ j k, j < 2 → k < 2 → hl copying + BitVec.ofNat 16 j ≠ de copying + BitVec.ofNat 16 k) := by
  refine ⟨rfl, by decide, by decide, by decide, by decide, rfl, rfl, by decide, by decide, by decide, by decide,
    by decide, ?_⟩
  have apart : ∀ j, j < 2 → ∀ k, k < 2 →
      hl copying + BitVec.ofNat 16 j ≠ de copying + BitVec.ofNat 16 k := by decide
  exact fun j k hj hk => apart j hj k hk

/-- The longest copy: 32768 bytes from 0000H, where the LDIR stands too, to 8000H. -/
def copyingHalf : State := { copying with regs := { Regs.zero with b := 0x80#8, d := 0x80#8 } }

/-- A region of all addresses is the one that every address finds. -/
theorem allRam_everywhere (a : Word) : regionOf [allRam] a = some allRam := by
  have hm : (a.toNat + 65536 - allRam.base.toNat) % 65536 < allRam.size := by
    have hs : allRam.size = 65536 := rfl
    omega
  simp [regionOf, hm]

/-- O42: the longest copy, the instruction's bytes inside the source block. -/
theorem witness_LdirCopiesBlock_longest :
    Memory.wf copyingHalf.mem = true ∧ (copyingHalf.phase = .untilHalt ∧ -2000000000 ≤ copyingHalf.budget) ∧
    copyingHalf.budget ≤ 2147483647 ∧ copyingHalf.boundary = true ∧ copyingHalf.halted = false ∧
    copyingHalf.params.cycleCost = [] ∧ copyingHalf.peek copyingHalf.pc = 0xED#8 ∧
    copyingHalf.peek (copyingHalf.pc + 1) = 0xB0#8 ∧ bc copyingHalf = BitVec.ofNat 16 32768 ∧
    (∀ k, k < 32768 → writable copyingHalf (de copyingHalf + BitVec.ofNat 16 k) = true) ∧
    (∀ k, k < 32768 →
      de copyingHalf + BitVec.ofNat 16 k ≠ copyingHalf.pc ∧ de copyingHalf + BitVec.ofNat 16 k ≠ copyingHalf.pc + 1) ∧
    (∀ j k, j < 32768 → k < 32768 → hl copyingHalf + BitVec.ofNat 16 j ≠ de copyingHalf + BitVec.ofNat 16 k) := by
  have ed : de copyingHalf = 0x8000#16 := by decide
  have eh : hl copyingHalf = 0x0000#16 := by decide
  have ep : copyingHalf.pc = 0x0000#16 := rfl
  have eg : copyingHalf.regions = [allRam] := by decide
  have far : ∀ k, k < 32768 → (0x8000#16 + BitVec.ofNat 16 k).toNat = 32768 + k := by
    intro k hk
    simp only [BitVec.toNat_add, BitVec.toNat_ofNat]
    omega
  rw [ed, eh, ep]
  refine ⟨by decide, by decide, by decide, by decide, rfl, rfl, by decide, by decide, by decide, fun k _ => ?_,
    fun k hk => ⟨fun h => ?_, fun h => ?_⟩, fun j k hj hk h => ?_⟩
  · rw [writable, eg, allRam_everywhere]
    rfl
  all_goals
    have e := congrArg BitVec.toNat h
    rw [far k hk] at e
    have one : (1 : Word).toNat = 1 := rfl
    simp only [BitVec.toNat_add, BitVec.toNat_ofNat, one] at e
    omega

/-- O45: the mirrors' fields. -/
theorem witness_Returns : (2#3 : BitVec 3) ≠ 0 ∧ (2#3 : BitVec 3) ≠ 1 := by decide

/-- O48: an opcode of each range of holes, at the ranges' ends. -/
theorem witness_HolesOfTheEdTable :
    (0x3F#8).toNat < 0x40 ∧ (0x80 ≤ (0x80#8).toNat ∧ (0x80#8).toNat < 0xA0) ∧ 0x80 ≤ (0x9F#8).toNat ∧
    0xC0 ≤ (0xC0#8).toNat ∧ (0xA0 ≤ (0xA4#8).toNat ∧ 4 ≤ (0xA4#8).toNat % 8) ∧ 4 ≤ (0xBF#8).toNat % 8 := by
  decide

/-- O50: inside a run, an instruction whose cost takes the budget below the range is refused. -/
theorem witness_StepNeverFaults :
    inRun { code [0x00#8] with budget := -2147483648 } ∧
    refuses { code [0x00#8] with budget := -2147483648 } .budgetRange = true := by
  unfold inRun; decide

/-- O51: an NMI is pending. -/
theorem witness_NmiAcceptance :
    { awaiting with nmiPending := true }.nmiPending = true ∧ Memory.wf { awaiting with nmiPending := true }.mem = true := by
  decide

/-- O52: no interrupt, and a maskable one in each mode under each model, with an RST byte and another. -/
theorem witness_IrqAcceptance :
    NoInterrupt awaiting ∧ NoInterrupt { awaiting with irqPending := true, iff0 := false } ∧
    IrqNext { awaiting with irqPending := true, im := .im1 } ∧
    (IrqNext { awaiting with irqPending := true, im := .im2 } ∧ awaiting.params.intVectorModel = .source) ∧
    (let s := { awaiting with
      irqPending := true, im := .im0, inputs := [0xC7#8], params := { Params.default with intVectorModel := .hardware } }
     IrqNext s ∧ Memory.wf s.mem = true ∧ s.params.intVectorModel = .hardware ∧ (drew s).1 &&& 0xC7#8 = 0xC7#8) ∧
    (let s := { awaiting with
      irqPending := true, im := .im2, inputs := [0xFF#8], params := { Params.default with intVectorModel := .hardware } }
     IrqNext s ∧ Memory.wf s.mem = true ∧ s.params.intVectorModel = .hardware ∧ s.im = .im2) := by
  unfold NoInterrupt IrqNext; decide

/-- O54: the next act is a reset. -/
theorem witness_ResetAct :
    { State.reset with host := [.reset, .signalNmi] }.phase = .idle ∧
    { State.reset with host := [.reset, .signalNmi] }.host = .reset :: [.signalNmi] := ⟨rfl, rfl⟩

/-- O55: phase idle, budgets at and past the range's ends, the largest region and one too large, a buffer one byte short, the
last byte of a region and the first past it, and a region number that nothing has. -/
theorem witness_HostActs :
    State.reset.phase = .idle ∧ Memory.wf State.reset.mem = true ∧ InRange 2147483647 ∧ InRange (-2147483648) ∧
    ¬ InRange 2147483648 ∧ ¬ InRange (-2147483649) ∧
    (2 ≤ 0x10000 ∧ 2 ≤ [0x00#8, 0x01#8].length) ∧ 0x10000 < 0x10001 ∧ [0x00#8].length < 2 ∧
    (State.reset.regions[0]? = some allRam ∧ 0xFFFF < allRam.size ∧ allRam.size ≤ 0x10000) ∧
    State.reset.regions[1]? = none := by
  unfold InRange; decide

/-- A map with a read-only region below 4000H, a read-write one of 16 bytes that starts at FFF8H and wraps, and holes. -/
def mapped : State :=
  { State.reset with
    regions := [{ base := 0x0010#16, size := 0x3FF0, kind := .ro }, { base := 0xFFF8#16, size := 16, kind := .rw }] }

/-- O56: the first region's ends, the wrapped region's last byte, the first address past it, and a write there. -/
theorem witness_BusReadsAndWrites :
    FirstHit mapped.regions 0 { base := 0x0010#16, size := 0x3FF0, kind := .ro } 0x3FFF#16 ∧
    FirstHit mapped.regions 1 { base := 0xFFF8#16, size := 16, kind := .rw } 0x0007#16 ∧
    (∀ g, g ∈ mapped.regions → ¬ hits g 0x0008#16) ∧
    Memory.wf mapped.mem = true ∧ writable mapped 0x3FFF#16 = false ∧ writable mapped 0x0008#16 = false := by
  refine ⟨⟨rfl, by unfold hits; decide, fun j g' h => absurd h (by omega)⟩,
    ⟨rfl, by unfold hits; decide, ?_⟩, ?_, by decide, by decide, by decide⟩
  · intro j g' hj hg
    obtain rfl : j = 0 := by omega
    obtain rfl := Option.some.inj hg
    unfold hits
    decide
  · unfold hits; decide

/-- O57: inside a run a step that answers a next state, with an address that is not writable. -/
theorem witness_RomKeepsItsBytes :
    inRun { mapped with phase := .untilHalt } ∧ ends { mapped with phase := .untilHalt } (fun _ => true) = true ∧
    writable { mapped with phase := .untilHalt } 0x0010#16 = false ∧
    (match { mapped with nmiPending := true }.intCheck with | .next _ => true | _ => false) = true := by
  unfold inRun; decide

/-- O58: an instruction that answers a next state. -/
theorem witness_WhoWritesControlState : exec .di State.reset = .next { State.reset with iff0 := false, iff1 := false } := rfl

/-- O59: the invariant holds of a state that steps, and of one inside an instruction. -/
theorem witness_StepKeepsInvariant :
    (code [0x80#8]).inv = true ∧ ends (code [0x80#8]) (fun t => t.inv) = true ∧
    (afterDd [0x24#8]).inv = true ∧ ends (afterDd [0x24#8]) (fun t => t.inv) = true := by
  decide

end Sys2Proof.Tests
end

section
/-! PROOFS. O4: the numbers by which the fetch of a decoded instruction moves, read off its first bytes. The numbers of an
instruction form one record (`facts`), and so do the numbers that the rules compute from the bytes (`tableFacts`). That the two
agree takes three steps: `facts` looks at no operand byte, only three parameters matter to either record, and for each setting
of those three the two agree at each of the 256 opcodes of each table. -/

namespace Sys2Proof.FetchCounts

open Sys2Proof.Claims

/-- What the fetch needs to know of an instruction. -/
structure FetchFacts where
  size          : Nat
  m1            : Nat
  indexPrefixes : Nat
  isPrefix      : Bool
  recognized    : Bool
  fetchSize     : Nat
deriving DecidableEq

/-- The model's numbers for an instruction. -/
def facts (p : Params) (i : Instr) : FetchFacts :=
  ⟨i.size, i.m1, i.indexPrefixes, i.isPrefix, i.recognized p, i.fetchSize p⟩

/-- The model's numbers for what the decoder answers, none where it answers no instruction. -/
def decodedFacts (p : Params) : Decoded → Option FetchFacts
  | .ok i => some (facts p i)
  | .error _ => none

/-- The numbers the rules compute from the first, second and fourth byte (R81, R82, R97, R99, R224). -/
def tableFacts (p : Params) (a b d : Byte) : FetchFacts :=
  ⟨lengthOf a b, m1Of a b, prefixesOf a, prefixAlone a b, !unknownOf p a b d, consumedOf p a b d⟩

/-! ## Only three parameters matter -/

/-- The parameters with the three switches of R97's table, the others at their defaults. -/
def switches (u : UndocOpcodes) (h : EdHoles) (k : BlockIo) : Params :=
  { Params.default with undocOpcodes := u, edHoles := h, blockIo := k }

/-- The three switches of R97's table as `p` sets them. -/
def switchesOf (p : Params) : Params := switches p.undocOpcodes p.edHoles p.blockIo

/-- The eight settings of the three switches. -/
def settings : List Params :=
  [.z80, .unknown].flatMap fun u => [.unknown, .nop].flatMap fun h => [.z80, .unknown].map (switches u h)

theorem switchesOf_mem_settings (p : Params) : switchesOf p ∈ settings := by
  have hu : p.undocOpcodes ∈ [UndocOpcodes.z80, .unknown] := by cases p.undocOpcodes <;> decide
  have hh : p.edHoles ∈ [EdHoles.unknown, .nop] := by cases p.edHoles <;> decide
  have hk : p.blockIo ∈ [BlockIo.z80, .unknown] := by cases p.blockIo <;> decide
  exact List.mem_flatMap.2 ⟨_, hu, List.mem_flatMap.2 ⟨_, hh, List.mem_map_of_mem hk⟩⟩

theorem recognized_switchesOf (p : Params) (i : Instr) : i.recognized (switchesOf p) = i.recognized p := by
  cases i <;> rfl

theorem facts_switchesOf (p : Params) (i : Instr) : facts (switchesOf p) i = facts p i := by
  simp only [facts, Instr.fetchSize, recognized_switchesOf]

theorem tableFacts_switchesOf (p : Params) (a b d : Byte) : tableFacts (switchesOf p) a b d = tableFacts p a b d := rfl

/-! ## No operand byte matters -/

section
variable (p : Params)

theorem facts_ldRpNn (q : Pair) (nn nn' : Word) : facts p (.ldRpNn q nn) = facts p (.ldRpNn q nn') := by
  cases q <;> rfl

theorem facts_ldRN (r : Reg8) (n n' : Byte) : facts p (.ldRN r n) = facts p (.ldRN r n') := by
  cases r <;> rfl

theorem facts_jpCcNn (cc : Cond) (nn nn' : Word) : facts p (.jpCcNn cc nn) = facts p (.jpCcNn cc nn') := by
  cases cc <;> rfl

theorem facts_callCcNn (cc : Cond) (nn nn' : Word) : facts p (.callCcNn cc nn) = facts p (.callCcNn cc nn') := by
  cases cc <;> rfl

theorem facts_aluImm (y : BitVec 3) (n n' : Byte) : facts p (aluImm y n) = facts p (aluImm y n') := by
  unfold aluImm
  split <;> rfl

theorem facts_aluMXy (x : Idx) (y : BitVec 3) (d d' : Byte) : facts p (aluMXy x y d) = facts p (aluMXy x y d') := by
  unfold aluMXy
  split <;> rfl

theorem facts_shiftMXy (x : Idx) (d d' : Byte) (y : BitVec 3) :
    facts p (shiftMXy x d y) = facts p (shiftMXy x d' y) := by
  unfold shiftMXy
  cases x <;> split <;> rfl

theorem facts_shiftMXyR (x : Idx) (d d' : Byte) (y : BitVec 3) (s : Reg8) :
    facts p (shiftMXyR x d y s) = facts p (shiftMXyR x d' y s) := by
  unfold shiftMXyR
  cases x <;> split <;> rfl

theorem facts_decodeBase0 (op b c d : Byte) :
    decodedFacts p (decodeBase0 op [b, c, d]) = decodedFacts p (decodeBase0 op [0, 0, 0]) := by
  unfold decodeBase0
  split
  · split <;> rfl
  · split
    · rfl
    · exact congrArg some (facts_ldRpNn p _ _ _)
  · split <;> rfl
  · rfl
  · rfl
  · rfl
  · split
    · exact congrArg some (facts_ldRN p _ _ _)
    · rfl
  · rfl

theorem facts_decodeBase3 (op b c d : Byte) :
    decodedFacts p (decodeBase3 op [b, c, d]) = decodedFacts p (decodeBase3 op [0, 0, 0]) := by
  unfold decodeBase3
  split
  · rfl
  · rfl
  · exact congrArg some (facts_jpCcNn p _ _ _)
  · split <;> rfl
  · exact congrArg some (facts_callCcNn p _ _ _)
  · split
    · split <;> rfl
    · rfl
  · exact congrArg some (facts_aluImm p _ _ _)
  · rfl

theorem facts_decodeBase (op b c d : Byte) :
    decodedFacts p (decodeBase op [b, c, d]) = decodedFacts p (decodeBase op [0, 0, 0]) := by
  unfold decodeBase
  split
  · exact facts_decodeBase0 p op b c d
  · rfl
  · rfl
  · exact facts_decodeBase3 p op b c d

theorem facts_decodeEd (op c d : Byte) :
    decodedFacts p (decodeEd op [c, d]) = decodedFacts p (decodeEd op [0, 0]) := by
  unfold decodeEd decodeEd1
  split
  · split
    · split
      case h_4 => split <;> rfl
      all_goals rfl
    · rfl
  · rfl

theorem facts_decodeXyOp (x : Idx) (op c d : Byte) :
    decodedFacts p (decodeXyOp x op [c, d]) = decodedFacts p (decodeXyOp x op [0, 0]) := by
  unfold decodeXyOp
  split
  · split
    · split <;> rfl
    · split <;> rfl
    · rfl
    · split <;> rfl
    · split <;> rfl
    · split <;> rfl
  · split
    · rfl
    · rfl
    · rfl
  · split
    · exact congrArg some (facts_aluMXy p x _ _ _)
    · rfl
  · rfl

theorem facts_decodeXyCb (x : Idx) (d d' op : Byte) :
    facts p (decodeXyCb x d op) = facts p (decodeXyCb x d' op) := by
  unfold decodeXyCb
  split <;> split
  · exact facts_shiftMXyR p x d d' _ _
  · cases x <;> rfl
  · cases x <;> rfl
  · cases x <;> rfl
  · exact facts_shiftMXy p x d d' _
  · cases x <;> rfl
  · cases x <;> rfl
  · cases x <;> rfl

theorem facts_decodeXy (x : Idx) (op c d : Byte) (hcb : op ≠ 0xCB#8) :
    decodedFacts p (decodeXy x [op, c, d]) = decodedFacts p (decodeXy x [op, 0, 0]) := by
  simp only [decodeXy, beq_eq_false_iff_ne.2 hcb, Bool.false_eq_true, if_false]
  split
  · rfl
  · split
    · rfl
    · split
      · exact facts_decodeXyOp p x op c d
      · rfl

/-- No byte after an unprefixed opcode matters to the rules' numbers. -/
theorem tableFacts_base (op b d : Byte) (h : isPrefixByte op = false) : tableFacts p op b d = tableFacts p op 0 0 := by
  simp only [isPrefixByte, Bool.or_eq_false_iff, beq_eq_false_iff_ne] at h
  obtain ⟨⟨⟨hcb, hdd⟩, hed⟩, hfd⟩ := h
  simp [tableFacts, lengthOf, m1Of, prefixAlone, unknownOf, consumedOf, hcb, hdd, hed, hfd]

/-- The fourth byte matters to the rules' numbers after DD CB and FD CB only. -/
theorem tableFacts_fourth (a b d : Byte) (h : b ≠ 0xCB#8) : tableFacts p a b d = tableFacts p a b 0 := by
  simp [tableFacts, consumedOf, unknownOf, h]

end

/-! ## The tables, one opcode at a time

With the operand bytes at 0 each statement is about the 256 opcodes of one table, which the kernel evaluates. -/

theorem baseTable : ∀ op : Byte, isPrefixByte op = false → ∀ p ∈ settings,
    decodedFacts p (decodeBase op [0, 0, 0]) = some (tableFacts p op 0 0) := by
  decide +kernel

theorem cbTable : ∀ op : Byte, ∀ p ∈ settings, facts p (decodeCb op) = tableFacts p 0xCB#8 op 0 := by
  decide +kernel

theorem edTable : ∀ op : Byte, ∀ p ∈ settings,
    decodedFacts p (decodeEd op [0, 0]) = some (tableFacts p 0xED#8 op 0) := by
  decide +kernel

theorem xyTable (x : Idx) : ∀ op : Byte, op ≠ 0xCB#8 → ∀ p ∈ settings,
    decodedFacts p (decodeXy x [op, 0, 0]) = some (tableFacts p x.byte op 0) := by
  cases x <;> decide +kernel

theorem xyCbTable (x : Idx) : ∀ op : Byte, ∀ p ∈ settings,
    facts p (decodeXyCb x 0 op) = tableFacts p x.byte 0xCB#8 op := by
  cases x <;> decide +kernel

/-! ## Any four bytes -/

theorem facts_decodeXy_eq_tableFacts {p : Params} (hp : p ∈ settings) (x : Idx) (b c d : Byte) :
    decodedFacts p (decodeXy x [b, c, d]) = some (tableFacts p x.byte b d) := by
  by_cases hcb : b = 0xCB#8
  · subst hcb
    exact congrArg some ((facts_decodeXyCb p x c 0 d).trans (xyCbTable x d p hp))
  · rw [facts_decodeXy p x b c d hcb, tableFacts_fourth p _ b d hcb]
    exact xyTable x b hcb p hp

theorem decode_of_not_prefix (op : Byte) (rest : List Byte) (h : isPrefixByte op = false) :
    decode (op :: rest) = decodeBase op rest := by
  simp only [isPrefixByte, Bool.or_eq_false_iff, beq_eq_false_iff_ne] at h
  obtain ⟨⟨⟨hcb, hdd⟩, hed⟩, hfd⟩ := h
  simp [decode, idxOf, hcb, hdd, hed, hfd]

theorem facts_decode_of_settings {p : Params} (hp : p ∈ settings) (a b c d : Byte) :
    decodedFacts p (decode [a, b, c, d]) = some (tableFacts p a b d) := by
  cases h : isPrefixByte a with
  | false =>
    rw [decode_of_not_prefix a _ h, facts_decodeBase, tableFacts_base p a b d h]
    exact baseTable a h p hp
  | true =>
    simp only [isPrefixByte, Bool.or_eq_true, beq_iff_eq] at h
    obtain ((rfl | rfl) | rfl) | rfl := h
    · exact congrArg some (cbTable b p hp)
    · exact facts_decodeXy_eq_tableFacts hp .ix b c d
    · exact (facts_decodeEd p b c d).trans (edTable b p hp)
    · exact facts_decodeXy_eq_tableFacts hp .iy b c d

/-- The numbers of a decoded instruction are those that the rules compute from its bytes. -/
theorem facts_of_decode {a b c d : Byte} {i : Instr} (h : decode [a, b, c, d] = .ok i) (p : Params) :
    facts p i = tableFacts p a b d := by
  have key := facts_decode_of_settings (switchesOf_mem_settings p) a b c d
  rw [h, tableFacts_switchesOf] at key
  exact (facts_switchesOf p i).symm.trans (Option.some.inj key)

/-- Settles O4, from the agreement of `facts` and `tableFacts`, field by field. -/
theorem lengthAndFetchCounts : Obligations.LengthAndFetchCounts := by
  intro a b c d i h
  have fieldsAgree (p : Params) := FetchFacts.mk.inj (facts_of_decode h p)
  obtain ⟨hsize, hm1, hprefixes, hprefix, -, -⟩ := fieldsAgree Params.default
  refine ⟨hsize, hm1, hprefixes, hprefix, fun p => ?_⟩
  obtain ⟨-, -, -, -, hrecognized, hfetch⟩ := fieldsAgree p
  exact ⟨hrecognized, hfetch⟩

end Sys2Proof.FetchCounts
end

section
/-! PROOFS. What an instruction can do to the state, said once for all 206 (`exec_completes`): the map, the parameters and the
host's part stay, memory changes by stores to read-write regions, the bus record grows, the budget does not rise, and the
control state is one that `ControlAfter` lists. O58 is read off it. -/

namespace Sys2Proof.Effects

open Sys2Proof.Machine Sys2Proof.Claims

/-! ## Stores -/

/-- Any number of stores, each to a byte that the first matching region holds read-write (R45). -/
inductive Stores (gs : List Region) (m : List Host.Cell) : List Host.Cell → Prop where
  | refl : Stores gs m m
  | tail {m' : List Host.Cell} {a : Word} {key : Nat} (v : Byte) (h : Stores gs m m')
      (hkey : findRegion gs 0 a = some (key, .rw)) : Stores gs m (memWrite m' key v)

theorem Stores.trans {gs : List Region} {m m' m'' : List Host.Cell} (h : Stores gs m m') (h' : Stores gs m' m'') :
    Stores gs m m'' := by
  induction h' with
  | refl => exact h
  | tail v _ hkey ih => exact ih.tail v hkey

theorem stores_stored (s : State) (a : Word) (v : Byte) : Stores s.regions s.mem (s.stored a v) := by
  unfold State.stored
  split
  · next key hk => exact .tail v .refl hk
  · exact .refl
  · exact .refl

/-! ## The frame of an instruction -/

/-- What no instruction writes. -/
structure Fixed where
  params      : Params
  regions     : List Region
  peripherals : List Peripheral
  nmiPending  : Bool
  irqPending  : Bool
  phase       : RunPhase
  host        : List HostAct

/-- The fields of `s` that no instruction writes. -/
def fixed (s : State) : Fixed :=
  ⟨s.params, s.regions, s.peripherals, s.nmiPending, s.irqPending, s.phase, s.host⟩

/-- What only a few instructions write. -/
structure Control where
  i      : Byte
  r      : Byte
  im     : IntMode
  iff0   : Bool
  iff1   : Bool
  shadow : Regs
  halted : Bool
  diag   : List DiagEvent

/-- The fields of `s` that only a few instructions write. -/
def control (s : State) : Control := ⟨s.i, s.r, s.im, s.iff0, s.iff1, s.shadow, s.halted, s.diag⟩

/-- What `Framed` speaks of: all of the state but the main registers, the index registers, SP, PC, the decoder state and the
environment's bytes. -/
structure Watched where
  fixed   : Fixed
  control : Control
  mem     : List Host.Cell
  bus     : List BusEvent
  budget  : Int

/-- The part of `s` that `Framed` looks at. -/
def watched (s : State) : Watched := ⟨fixed s, control s, s.mem, s.bus, s.budget⟩

/-- `t` is reached from `s` inside an instruction, and its control state is `c`. -/
structure Framed (s : State) (c : Control) (t : State) : Prop where
  fixed   : fixed t = fixed s
  control : control t = c
  mem     : Stores s.regions s.mem t.mem
  bus     : Grew s.bus t.bus
  budget  : t.budget ≤ s.budget

namespace Framed

theorem refl (s : State) : Framed s (Effects.control s) s := ⟨rfl, rfl, .refl, ⟨[], rfl⟩, Int.le_refl _⟩

variable {s t u : State} {c : Control}

/-- An update of what is not watched. -/
theorem unwatched (h : Framed s c t) (e : watched u = watched t) : Framed s c u := by
  obtain ⟨hf, hc, hm, hb, hg⟩ := Watched.mk.inj e
  exact ⟨hf.trans h.fixed, hc.trans h.control, hm ▸ h.mem, hb ▸ h.bus, hg ▸ h.budget⟩

theorem regions_eq (h : Framed s c t) : t.regions = s.regions := congrArg Fixed.regions h.fixed

theorem log (h : Framed s c t) (e : BusEvent) : Framed s c (t.log e) :=
  have ⟨l, hl⟩ := h.bus
  ⟨h.fixed, h.control, h.mem, ⟨e :: l, congrArg (e :: ·) hl⟩, h.budget⟩

theorem write8 (h : Framed s c t) (a : Word) (v : Byte) : Framed s c (t.write8 a v) :=
  have ⟨l, hl⟩ := h.bus
  ⟨h.fixed, h.control, h.mem.trans (h.regions_eq ▸ stores_stored t a v), ⟨_ :: l, congrArg (_ :: ·) hl⟩, h.budget⟩

theorem charge (h : Framed s c t) (n : Nat) : Framed s c (t.charge n) :=
  ⟨h.fixed, h.control, h.mem, h.bus, by have := h.budget; simp only [State.charge]; omega⟩

/-! The operations that instructions share -/

theorem noteRead (h : Framed s c t) (a : Word) : Framed s c (t.noteRead a) := h.log _

theorem noteRead16 (h : Framed s c t) (a : Word) : Framed s c (t.noteRead16 a) := (h.noteRead a).noteRead (a + 1)

theorem write16 (h : Framed s c t) (a v : Word) : Framed s c (t.write16 a v) := (h.write8 a _).write8 (a + 1) _

theorem setPc (h : Framed s c t) (v : Word) : Framed s c (t.setPc v) := h.unwatched rfl

theorem push16 (h : Framed s c t) (v : Word) : Framed s c (t.push16 v) :=
  (h.unwatched (u := t.setSp (t.sp - 2)) rfl).write16 _ v

theorem call (h : Framed s c t) (v : Word) : Framed s c (t.call v) := (h.push16 _).setPc v

theorem dropTop (h : Framed s c t) : Framed s c t.dropTop := (h.noteRead16 t.sp).unwatched rfl

theorem ret (h : Framed s c t) : Framed s c t.ret := h.dropTop.setPc _

theorem setB (h : Framed s c t) (v : Byte) : Framed s c (t.setB v) := h.unwatched rfl

theorem setR (h : Framed s c t) (r : Reg8) (v : Byte) : Framed s c (t.setR r v) :=
  h.unwatched (by cases r <;> rfl)

theorem setRp (h : Framed s c t) (p : Pair) (v : Word) : Framed s c (t.setRp p v) :=
  h.unwatched (by cases p <;> rfl)

theorem setQq (h : Framed s c t) (p : StackPair) (v : Word) : Framed s c (t.setQq p v) :=
  h.unwatched (by cases p <;> rfl)

theorem setIdx (h : Framed s c t) (x : Idx) (v : Word) : Framed s c (t.setIdx x v) :=
  h.unwatched (by cases x <;> rfl)

theorem setHalf (h : Framed s c t) (x : Idx) (k : Half) (v : Byte) : Framed s c (t.setHalf x k v) := by
  cases k <;> exact h.setIdx x _

theorem afterDraw (h : Framed s c t) : Framed s c t.afterDraw := by
  rw [State.afterDraw_frame]
  exact h.unwatched rfl

theorem ioRead (h : Framed s c t) (p : Word) : Framed s c (t.ioRead p) := by
  unfold State.ioRead
  split
  · exact h.afterDraw.log _
  · exact h.log _

theorem loadAFromR (h : Framed s c t) : Framed s c t.loadAFromR := by
  unfold State.loadAFromR
  split
  · exact h.unwatched rfl
  · exact h.afterDraw.unwatched rfl

theorem select (h : Framed s c t) (sel : XySel) (d : Byte) : Framed s c (t.select sel d) := h.unwatched rfl

theorem noteM (h : Framed s c t) : Framed s c t.noteM := h.noteRead _

theorem writeM (h : Framed s c t) (v : Byte) : Framed s c (t.writeM v) := h.write8 _ v

theorem rmwR (h : Framed s c t) (g : Byte → Byte → AluOut) (r : Reg8) : Framed s c (t.rmwR g r) :=
  (h.setR r _).unwatched rfl

theorem rmwM (h : Framed s c t) (g : Byte → Byte → AluOut) : Framed s c (t.rmwM g) :=
  (h.noteM.writeM _).unwatched rfl

theorem rmwMR (h : Framed s c t) (g : Byte → Byte → AluOut) (r : Reg8) : Framed s c (t.rmwMR g r) :=
  (h.rmwM g).setR r _

theorem rmwHalf (h : Framed s c t) (g : Byte → Byte → AluOut) (x : Idx) (k : Half) : Framed s c (t.rmwHalf g x k) :=
  (h.setHalf x k _).unwatched rfl

theorem rotateDigits (h : Framed s c t) (o : DigitsOut) : Framed s c (t.rotateDigits o) :=
  ((h.noteRead t.hl).write8 t.hl o.m).unwatched rfl

theorem ldStep (h : Framed s c t) (dir : Word) : Framed s c (t.ldStep dir) :=
  ((h.noteRead t.hl).write8 t.de _).unwatched rfl

theorem cpStep (h : Framed s c t) (dir : Word) : Framed s c (t.cpStep dir) := (h.noteRead t.hl).unwatched rfl

theorem inStep (h : Framed s c t) (dir : Word) : Framed s c (t.inStep dir) :=
  ((h.ioRead t.bc).write8 t.hl _).unwatched rfl

theorem outStep (h : Framed s c t) (dir : Word) : Framed s c (t.outStep dir) :=
  ((h.noteRead t.hl).log _).unwatched rfl

theorem repeatIf (h : Framed s c t) (i : Instr) (again : State → Bool) : Framed s c (t.repeatIf i again) := by
  unfold State.repeatIf
  split
  · exact (h.setPc (t.pc - 2)).charge _
  · exact h

theorem when (h : Framed s c t) {op : State → State} (b : Bool) (hop : Framed s c (op t)) : Framed s c (t.when b op) := by
  unfold State.when
  split
  · exact hop
  · exact h

theorem inputBc (h : Framed s c t) : Framed s c t.inputBc := (h.ioRead t.bc).unwatched rfl

end Framed

/-! ## The effect of each instruction -/

/-- The control state that an instruction run in `s` can leave: the one it found, or, for an instruction the parameters do
not recognize and for the named ones, one in which its own fields are written. -/
inductive ControlAfter (s : State) : Instr → Control → Prop where
  | same (i : Instr) : ControlAfter s i (control s)
  | unknown {i : Instr} (h : i.recognized s.params = false) : ControlAfter s i (control (s.raiseUnknown i))
  | ldIA : ControlAfter s .ldIA (control { s with i := s.regs.a })
  | ldRA : ControlAfter s .ldRA (control { s with r := s.regs.a })
  | im0 : ControlAfter s .im0 (control { s with im := .im0 })
  | im1 : ControlAfter s .im1 (control { s with im := .im1 })
  | im2 : ControlAfter s .im2 (control { s with im := .im2 })
  | im0Mirror (y : BitVec 3) : ControlAfter s (.im0Mirror y) (control { s with im := .im0 })
  | im1Mirror : ControlAfter s .im1Mirror (control { s with im := .im1 })
  | im2Mirror : ControlAfter s .im2Mirror (control { s with im := .im2 })
  | di : ControlAfter s .di (control { s with iff0 := false, iff1 := false })
  | ei : ControlAfter s .ei (control { s with iff0 := true, iff1 := true })
  | retn : ControlAfter s .retn (control { s with iff0 := s.iff1 })
  | reti : ControlAfter s .reti (control { s with iff0 := s.iff1 })
  | retnMirror (y : BitVec 3) : ControlAfter s (.retnMirror y) (control { s with iff0 := s.iff1 })
  | exAfAf : ControlAfter s .exAfAf (control s.swapAf)
  | exx : ControlAfter s .exx (control s.swapBcDeHl)
  | halt : ControlAfter s .halt (control { s with halted := true })

/-- What the instruction `i` can do to `s`. -/
def Effect (i : Instr) (s t : State) : Prop := ∃ c, ControlAfter s i c ∧ Framed s c t

/-- An answer that is a next state the instruction can lead to. -/
def Completes (i : Instr) (s : State) (x : Answer) : Prop := ∃ t, x = .next t ∧ Effect i s t

section
variable {s t : State} {i : Instr}

/-- An instruction that leaves the control state alone. -/
theorem Effect.same (h : Framed s (control s) t) : Effect i s t := ⟨_, .same i, h⟩

theorem Completes.same (h : Framed s (control s) t) : Completes i s (.next t) := ⟨t, rfl, .same h⟩

/-- An instruction that writes the control state and nothing else that is watched. -/
theorem Effect.writes (h : ControlAfter s i (control t)) (hf : fixed t = fixed s) (hm : t.mem = s.mem)
    (hb : t.bus = s.bus) (hg : t.budget = s.budget) : Effect i s t :=
  ⟨_, h, hf, rfl, hm ▸ .refl, ⟨[], hb⟩, Int.le_of_eq hg⟩

/-- RETN and RETI (R208, R209). -/
theorem Effect.returns (h : ControlAfter s i (control { s with iff0 := s.iff1 })) : Effect i s s.returnFromInt :=
  have f := (Framed.refl s).dropTop
  ⟨_, h, f.fixed, rfl, f.mem, f.bus, f.budget⟩

/-- An instruction that the parameters may leave unrecognized has its effect or the event's (R97, R224). -/
theorem Effect.ifRecognized {op : State → State} (h : Effect i s (op s)) : Effect i s (s.ifRecognized i op) := by
  unfold State.ifRecognized
  split
  · exact h
  · next hr => exact ⟨_, .unknown (by simpa using hr), rfl, rfl, .refl, ⟨[], rfl⟩, Int.le_refl _⟩

theorem Completes.ifRecognized {op : State → State} (h : Effect i s (op s)) :
    Completes i s (.next (s.ifRecognized i op)) := ⟨_, rfl, h.ifRecognized⟩

end

/-- Every instruction completes, and its effect is one the rules allow it. -/
theorem exec_completes (s : State) (i : Instr) : Completes i s (exec i s) :=
  have self := Framed.refl s
  have onHl := self.select .hl 0x00#8
  have onXy (x : Idx) (d : Byte) := self.select (idxSel x) d
  match i with
  | .nop => .same self
  -- registers only
  | .rlca | .rrca | .rla | .rra | .daa | .cpl | .scf | .ccf | .neg | .exDeHl | .ldSpHl | .ldAI => .same (self.unwatched rfl)
  | .addAR _ | .adcAR _ | .subR _ | .sbcAR _ | .andR _ | .xorR _ | .orR _ | .cpR _ => .same (self.unwatched rfl)
  | .addAN _ | .adcAN _ | .subN _ | .sbcAN _ | .andN _ | .xorN _ | .orN _ | .cpN _ => .same (self.unwatched rfl)
  | .addHlRp _ | .adcHlRp _ | .sbcHlRp _ | .bitBR _ _ | .ldSpXy _ => .same (self.unwatched rfl)
  | .ldRN r _ | .ldRR r _ => .same (self.setR r _)
  | .ldRpNn p _ | .incRp p | .decRp p => .same (self.setRp p _)
  | .ldXyNn x _ | .incXy x | .decXy x => .same (self.setIdx x _)
  | .addXyRp x _ => .same ((self.setIdx x _).unwatched rfl)
  | .incR r | .decR r | .rlcR r | .rrcR r | .rlR r | .rrR r | .slaR r | .sraR r | .sllR r | .srlR r => .same (self.rmwR _ r)
  | .resBR _ r | .setBR _ r => .same (self.rmwR _ r)
  | .ldAR => .same self.loadAFromR
  -- halves of the index registers
  | .incXyHalf x h | .decXyHalf x h => .ifRecognized (.same (self.rmwHalf _ x h))
  | .ldXyHalfN x h _ | .ldXyHalfS x h _ => .ifRecognized (.same (self.setHalf x h _))
  | .ldRXyHalf _ r _ => .ifRecognized (.same (self.setR r _))
  | .addAXyHalf _ _ | .adcAXyHalf _ _ | .subXyHalf _ _ | .sbcAXyHalf _ _ => .ifRecognized (.same (self.unwatched rfl))
  | .andXyHalf _ _ | .xorXyHalf _ _ | .orXyHalf _ _ | .cpXyHalf _ _ => .ifRecognized (.same (self.unwatched rfl))
  | .negMirror _ => .ifRecognized (.same (self.unwatched rfl))
  -- loads and stores
  | .ldMBcA | .ldMDeA | .ldMNnA _ => .same (self.write8 _ _)
  | .ldAMBc | .ldAMDe | .ldAMNn _ => .same ((self.noteRead _).unwatched rfl)
  | .ldMNnHl nn | .ldMNnRp _ nn | .ldMNnXy _ nn => .same (self.write16 nn _)
  | .ldHlMNn nn => .same ((self.noteRead16 nn).unwatched rfl)
  | .ldRpMNn p nn => .same ((self.noteRead16 nn).setRp p _)
  | .ldXyMNn x nn => .same ((self.noteRead16 nn).setIdx x _)
  | .ldMHlN _ | .ldMHlR _ => .same (onHl.writeM _)
  | .ldMXyN x d _ | .ldMXyR x d _ => .same ((onXy x d).writeM _)
  | .ldRMHl r => .same (onHl.noteM.setR r _)
  | .ldRMXy x r d => .same ((onXy x d).noteM.setR r _)
  -- the memory operand
  | .addAMHl | .adcAMHl | .subMHl | .sbcAMHl | .andMHl | .xorMHl | .orMHl | .cpMHl | .bitBMHl _ =>
    .same (onHl.noteM.unwatched rfl)
  | .addAMXy x d | .adcAMXy x d | .subMXy x d | .sbcAMXy x d | .andMXy x d | .xorMXy x d | .orMXy x d | .cpMXy x d =>
    .same ((onXy x d).noteM.unwatched rfl)
  | .bitBMXy x d _ => .same ((onXy x d).noteM.unwatched rfl)
  | .bitBMXyMirror x d _ _ => .ifRecognized (.same ((onXy x d).noteM.unwatched rfl))
  | .incMHl | .decMHl | .rlcMHl | .rrcMHl | .rlMHl | .rrMHl | .slaMHl | .sraMHl | .sllMHl | .srlMHl => .same (onHl.rmwM _)
  | .resBMHl _ | .setBMHl _ => .same (onHl.rmwM _)
  | .incMXy x d | .decMXy x d | .rlcMXy x d | .rrcMXy x d | .rlMXy x d | .rrMXy x d => .same ((onXy x d).rmwM _)
  | .slaMXy x d | .sraMXy x d | .sllMXy x d | .srlMXy x d => .same ((onXy x d).rmwM _)
  | .resBMXy x d _ | .setBMXy x d _ => .same ((onXy x d).rmwM _)
  | .rlcMXyR x d r | .rrcMXyR x d r | .rlMXyR x d r | .rrMXyR x d r => .ifRecognized (.same ((onXy x d).rmwMR _ r))
  | .slaMXyR x d r | .sraMXyR x d r | .sllMXyR x d r | .srlMXyR x d r => .ifRecognized (.same ((onXy x d).rmwMR _ r))
  | .resBMXyR x d _ r | .setBMXyR x d _ r => .ifRecognized (.same ((onXy x d).rmwMR _ r))
  | .rrd | .rld => .same (self.rotateDigits _)
  -- the stack
  | .pushQq _ | .pushXy _ => .same (self.push16 _)
  | .popQq p => .same (self.dropTop.setQq p _)
  | .popXy x => .same (self.dropTop.setIdx x _)
  | .exMSpHl => .same (((self.noteRead16 s.sp).write16 s.sp _).unwatched rfl)
  | .exMSpXy x => .same (((self.noteRead16 s.sp).write16 s.sp _).setIdx x _)
  -- control transfer
  | .jr _ | .jpHl | .jpNn _ | .jpXy _ => .same (self.setPc _)
  | .djnz _ => .same ((self.setB _).when _ (((self.setB _).setPc _).charge _))
  | .jrCc _ _ | .jpCcNn _ _ => .same (self.when _ ((self.setPc _).charge _))
  | .callNn _ | .rst _ => .same (self.call _)
  | .callCcNn _ _ => .same (self.when _ ((self.call _).charge _))
  | .ret => .same self.ret
  | .retCc _ => .same (self.when _ (self.ret.charge _))
  | .retn => ⟨_, rfl, .returns .retn⟩
  | .reti => ⟨_, rfl, .returns .reti⟩
  | .retnMirror y => .ifRecognized (.returns (.retnMirror y))
  -- ports
  | .outNA _ | .outCR _ => .same (self.log _)
  | .outC0 => .ifRecognized (.same (self.log _))
  | .inAN _ => .same ((self.ioRead _).unwatched rfl)
  | .inRC r => .same (self.inputBc.setR r _)
  | .inC => .ifRecognized (.same self.inputBc)
  -- block instructions
  | .ldi | .ldd => .same (self.ldStep _)
  | .ldir | .lddr => .same ((self.ldStep _).repeatIf _ _)
  | .cpi | .cpd => .same (self.cpStep _)
  | .cpir | .cpdr => .same ((self.cpStep _).repeatIf _ _)
  | .ini | .ind => .ifRecognized (.same (self.inStep _))
  | .inir | .indr => .ifRecognized (.same ((self.inStep _).repeatIf _ _))
  | .outi | .outd => .ifRecognized (.same (self.outStep _))
  | .otir | .otdr => .ifRecognized (.same ((self.outStep _).repeatIf _ _))
  -- control state
  | .di => ⟨_, rfl, .writes .di rfl rfl rfl rfl⟩
  | .ei => ⟨_, rfl, .writes .ei rfl rfl rfl rfl⟩
  | .im0 => ⟨_, rfl, .writes .im0 rfl rfl rfl rfl⟩
  | .im1 => ⟨_, rfl, .writes .im1 rfl rfl rfl rfl⟩
  | .im2 => ⟨_, rfl, .writes .im2 rfl rfl rfl rfl⟩
  | .im0Mirror y => .ifRecognized (.writes (.im0Mirror y) rfl rfl rfl rfl)
  | .im1Mirror => .ifRecognized (.writes .im1Mirror rfl rfl rfl rfl)
  | .im2Mirror => .ifRecognized (.writes .im2Mirror rfl rfl rfl rfl)
  | .ldIA => ⟨_, rfl, .writes .ldIA rfl rfl rfl rfl⟩
  | .ldRA => ⟨_, rfl, .writes .ldRA rfl rfl rfl rfl⟩
  | .exAfAf => ⟨_, rfl, .writes .exAfAf rfl rfl rfl rfl⟩
  | .exx => ⟨_, rfl, .writes .exx rfl rfl rfl rfl⟩
  | .halt => ⟨_, rfl, .writes .halt rfl rfl rfl rfl⟩
  | .edHole _ => .ifRecognized (.same self)
  -- CB, ED, DD and FD bytes
  | .prefixCb | .prefixEd | .prefixDd | .prefixFd | .xyPrefixHlNotUsed _ _ | .xyPrefixBeforeEd _ =>
    .same (self.unwatched rfl)

/-- Who writes each field of the control state (R25 to R31, R37, R224). -/
theorem ControlAfter.writers {s : State} {i : Instr} {c : Control} (h : ControlAfter s i c) :
    Grew s.diag c.diag ∧ (c.i = s.i ∨ i = .ldIA) ∧ (c.r = s.r ∨ i = .ldRA) ∧
    (c.im = s.im ∨ i = .im0 ∨ i = .im1 ∨ i = .im2 ∨ (∃ y, i = .im0Mirror y) ∨ i = .im1Mirror ∨
      i = .im2Mirror) ∧
    (c.iff1 = s.iff1 ∨ i = .di ∨ i = .ei) ∧
    (c.iff0 = s.iff0 ∨ i = .di ∨ i = .ei ∨ i = .retn ∨ i = .reti ∨ ∃ y, i = .retnMirror y) ∧
    (c.shadow = s.shadow ∨ i = .exAfAf ∨ i = .exx) ∧
    (c.halted = s.halted ∨ i = .halt ∨ i.recognized s.params = false) ∧
    (c.diag = s.diag ∨ i.recognized s.params = false) := by
  have grewSelf : Grew s.diag s.diag := ⟨[], rfl⟩
  cases h with
  | unknown hr =>
    have grew : Grew s.diag (s.raiseUnknown i).diag := ⟨[unknownEvent i], rfl⟩
    exact ⟨grew, .inl rfl, .inl rfl, .inl rfl, .inl rfl, .inl rfl, .inl rfl, .inr (.inr hr), .inr hr⟩
  | _ => simp [control, grewSelf, State.swapAf, State.swapBcDeHl]

/-- Settles O58, from the effect of the instruction: its frame, and who writes the control state. -/
theorem whoWritesControlState : Obligations.WhoWritesControlState := by
  intro i s t h
  obtain ⟨u, hu, c, hc, hf⟩ := exec_completes s i
  obtain rfl := Host.Outcome.next.inj (hu.symm.trans h)
  obtain ⟨hparams, hregions, hperipherals, hnmi, hirq, hphase, hhost⟩ := Fixed.mk.inj hf.fixed
  obtain rfl := hf.control
  obtain ⟨hdiag, hfields⟩ := hc.writers
  exact ⟨hparams, hregions, hperipherals, hnmi, hirq, hphase, hhost, hdiag, hf.bus, hf.budget, hfields⟩

end Sys2Proof.Effects
end

section
/-! PROOFS. O8, O53, O59 and O60: the invariant of the machine. Memory keeps its canonical form and its owners because every
change of it is a store, a host's change or a registered buffer; the decoder state and the budget are looked at where a step
sets them: at run entry, at the end of an instruction, and at a CB, ED, DD or FD byte. -/

namespace Sys2Proof.Invariant

open Sys2Proof.Machine Sys2Proof.Claims Sys2Proof.Effects

/-! ## Reset -/

/-- Settles O53: each register of the two files is looked at. -/
theorem stateAfterReset : Obligations.StateAfterReset := by
  intro r
  cases r <;> decide

/-- Settles O60: the map is one region of the largest legal size, and no byte is listed. -/
theorem resetMeetsInvariant : Obligations.ResetMeetsInvariant := by
  unfold Obligations.ResetMeetsInvariant
  decide

/-! ## The buffers and their owners -/

/-- The key is that of a byte of a registered region's buffer. -/
def Owned (gs : List Region) (key : Nat) : Prop := ∃ g, gs[key / 65536]? = some g ∧ key % 65536 < g.size

theorem memOwned_iff {gs : List Region} {m : List Host.Cell} : memOwned gs m = true ↔ ∀ c ∈ m, Owned gs c.1 := by
  simp only [memOwned, List.all_eq_true, Owned]
  refine forall₂_congr fun c _ => ?_
  cases gs[c.1 / 65536]? <;> simp

theorem owned_bufferKey {gs : List Region} {k offset : Nat} {g : Region} (hg : gs[k]? = some g)
    (hsize : offset < g.size) (h : offset < 65536) : Owned gs (bufferKey k offset) := by
  have hq : bufferKey k offset / 65536 = k := by simp only [bufferKey]; omega
  have hr : bufferKey k offset % 65536 = offset := by simp only [bufferKey]; omega
  exact ⟨g, by rw [hq, hg], by rwa [hr]⟩

theorem owned_of_findRegion {gs : List Region} {a : Word} {key : Nat} {kind : RegionKind}
    (h : findRegion gs 0 a = some (key, kind)) : Owned gs key := by
  obtain ⟨j, g, hg, hsize, rfl, -⟩ := findRegion_some h
  exact owned_bufferKey (by simpa using hg) hsize (g.offset_lt a)

theorem Owned.append {gs : List Region} {key : Nat} (h : Owned gs key) (new : List Region) : Owned (gs ++ new) key := by
  obtain ⟨g, hg, hsize⟩ := h
  exact ⟨g, List.getElem?_append_left (List.getElem?_eq_some_iff.1 hg).1 ▸ hg, hsize⟩

/-- A write lists no other byte than its own anew. -/
theorem mem_of_mem_memWrite {m : List Host.Cell} {k : Nat} {v : Byte} {c : Host.Cell} (h : c ∈ memWrite m k v) :
    c = (k, v) ∨ c ∈ m := by
  induction m with
  | nil =>
    simp only [memWrite] at h
    split at h
    · exact .inr h
    · exact .inl (List.mem_singleton.1 h)
  | cons d m ih =>
    simp only [memWrite] at h
    split at h
    · split at h
      · exact .inr h
      · exact List.mem_cons.1 h
    · split at h
      · split at h
        · exact .inr (List.mem_cons_of_mem d h)
        · exact (List.mem_cons.1 h).imp_right (List.mem_cons_of_mem d)
      · rcases List.mem_cons.1 h with rfl | h
        · exact .inr List.mem_cons_self
        · exact (ih h).imp_right (List.mem_cons_of_mem d)

/-- The part of the invariant that is about memory. -/
structure MapSound (gs : List Region) (m : List Host.Cell) : Prop where
  wf    : Memory.wf m = true
  legal : regionsLegal gs = true
  owned : ∀ c ∈ m, Owned gs c.1

namespace MapSound

variable {gs : List Region} {m m' : List Host.Cell}

theorem memWrite (h : MapSound gs m) {key : Nat} (hk : Owned gs key) (v : Byte) :
    MapSound gs (memWrite m key v) where
  wf    := wf_memWrite key v h.wf
  legal := h.legal
  owned := fun c hc => (mem_of_mem_memWrite hc).elim (· ▸ hk) (h.owned c)

theorem stores (h : MapSound gs m) (hs : Stores gs m m') : MapSound gs m' := by
  induction hs with
  | refl => exact h
  | tail v _ hkey ih => exact ih.memWrite (owned_of_findRegion hkey) v

theorem storeBuffer (h : MapSound gs m) {k : Nat} {bs : List Byte} (hk : ∀ j < bs.length, Owned gs (k + j)) :
    MapSound gs (storeBuffer m k bs) := by
  induction bs generalizing m k with
  | nil => exact h
  | cons b bs ih =>
    refine ih (h.memWrite (hk 0 (by simp)) b) fun j hj => ?_
    have := hk (j + 1) (by simpa using hj)
    rwa [show k + (j + 1) = k + 1 + j by omega] at this

theorem append (h : MapSound gs m) {g : Region} (hg : g.size ≤ 0x10000) : MapSound (gs ++ [g]) m where
  wf    := h.wf
  legal := by simpa [regionsLegal] using ⟨by simpa [regionsLegal] using h.legal, hg⟩
  owned := fun c hc => (h.owned c hc).append [g]

/-- A region of the map is small enough for its offsets not to run into the next region's keys. -/
theorem size_le (h : MapSound gs m) {k : Nat} {g : Region} (hg : gs[k]? = some g) : g.size ≤ 0x10000 := by
  have := List.all_eq_true.1 h.legal g (List.mem_of_getElem? hg)
  simpa using this

end MapSound

/-! ## The invariant, taken apart -/

/-- The part of the invariant that is about the decoder state. -/
structure DecoderSound (s : State) : Prop where
  disp : s.disp = 0#8
  idle : s.phase = .idle → s.midInstr = false
  ed   : s.pfx = .ed → s.xySel = .hl

theorem decoderLegal_iff {s : State} : s.decoderLegal = true ↔ DecoderSound s := by
  simp only [State.decoderLegal, Bool.and_eq_true, Bool.or_eq_true, beq_iff_eq, bne_iff_ne, Bool.not_eq_true',
    ← Decidable.imp_iff_not_or]
  exact ⟨fun ⟨⟨hd, hi⟩, he⟩ => ⟨hd, hi, he⟩, fun h => ⟨⟨h.disp, h.idle⟩, h.ed⟩⟩

/-- The invariant as a structure. -/
structure Sound (s : State) : Prop where
  map     : MapSound s.regions s.mem
  decoder : DecoderSound s
  budget  : s.midInstr = false → budgetInRange s.budget = true

theorem inv_iff {s : State} : s.inv = true ↔ Sound s := by
  have hbudget : s.budgetLegal = true ↔ (s.midInstr = false → budgetInRange s.budget = true) := by
    cases h : s.midInstr <;> simp [State.budgetLegal, h]
  simp only [State.inv, Bool.and_eq_true, memOwned_iff, decoderLegal_iff, hbudget]
  exact ⟨fun ⟨⟨⟨⟨hw, hl⟩, ho⟩, hd⟩, hb⟩ => ⟨⟨hw, hl, ho⟩, hd, hb⟩,
    fun h => ⟨⟨⟨⟨h.map.wf, h.map.legal⟩, h.map.owned⟩, h.decoder⟩, h.budget⟩⟩

namespace Sound

variable {s t : State}

/-- A state with the decoder state of an instruction boundary. -/
theorem of_boundary (hmap : MapSound s.regions s.mem) (h : s.boundary = true) (hb : budgetInRange s.budget = true) :
    Sound s := by
  simp only [State.boundary, Bool.and_eq_true, beq_iff_eq] at h
  obtain ⟨⟨hsel, hdisp⟩, hpfx⟩ := h
  exact ⟨hmap, ⟨hdisp, fun _ => by simp [State.midInstr, hsel, hpfx], fun _ => hsel⟩, fun _ => hb⟩

/-- A change of what the invariant does not look at. -/
theorem congr (h : Sound s) (e : t.inv = s.inv) : Sound t := inv_iff.1 (e.trans (inv_iff.2 h))

/-- A change of memory alone. -/
theorem of_map (h : Sound s) {gs : List Region} {m : List Host.Cell} (hmap : MapSound gs m) :
    Sound { s with regions := gs, mem := m } := ⟨hmap, ⟨h.decoder.disp, h.decoder.idle, h.decoder.ed⟩, h.budget⟩

end Sound

/-! ## The acts of the host -/

/-- The map and the stores made through it. -/
structure MapKept (s t : State) : Prop where
  regions : t.regions = s.regions
  mem     : Stores s.regions s.mem t.mem

theorem MapSound.kept {s t : State} (h : MapSound s.regions s.mem) (k : MapKept s t) : MapSound t.regions t.mem :=
  k.regions ▸ h.stores k.mem

theorem acceptEntry_mapKept (s : State) (k : IntKind) : MapKept s (s.acceptEntry k) :=
  have push := (Framed.refl (s.incR 1)).push16 s.pc
  ⟨push.regions_eq, push.mem⟩

/-- The acceptance of an interrupt changes memory by its push only, and no decoder state (R229). -/
theorem intCheck_keeps {s t : State} (h : s.intCheck = .next t) : MapKept s t ∧ t.boundary = s.boundary := by
  rcases intCheck_next h with ⟨-, rfl⟩ | ⟨-, -, -, h⟩ | rfl
  · obtain ⟨hregions, hmem⟩ := acceptEntry_mapKept s.takeNmi .nmi
    exact ⟨⟨hregions, hmem⟩, rfl⟩
  · obtain ⟨u, k, hu, hpc⟩ := acceptIrq_next h
    have entry (k : IntKind) : MapKept s (u.acceptEntry k) ∧ (u.acceptEntry k).boundary = s.boundary := by
      obtain ⟨hregions, hmem⟩ := acceptEntry_mapKept u k
      rcases hu with rfl | rfl
      · exact ⟨⟨hregions, hmem⟩, rfl⟩
      · rw [State.afterDraw_frame] at hregions hmem ⊢
        exact ⟨⟨hregions, hmem⟩, rfl⟩
    obtain ⟨pc, rfl⟩ | ⟨v, rfl⟩ := hpc
    · obtain ⟨⟨hregions, hmem⟩, hb⟩ := entry k
      exact ⟨⟨hregions, hmem⟩, hb⟩
    · obtain ⟨⟨hregions, hmem⟩, hb⟩ := entry .im2
      exact ⟨⟨hregions, hmem⟩, hb⟩
  · exact ⟨⟨rfl, .refl⟩, rfl⟩

theorem addAllowance_boundary (s : State) (allowance : BitVec 32) : (s.addAllowance allowance).boundary = true := by
  unfold State.addAllowance
  split <;> rfl

theorem addAllowance_mapKept (s : State) (allowance : BitVec 32) : MapKept s (s.addAllowance allowance) := by
  unfold State.addAllowance
  split <;> exact ⟨rfl, .refl⟩

/-- Entering `run` ends at an instruction boundary, with the budget tested (R236). -/
theorem enterRun_sound {s t : State} {allowance : BitVec 32} (hs : Sound s) (h : s.enterRun allowance = .next t) :
    Sound t := by
  obtain ⟨u, hu, ht⟩ := andThen_next h
  obtain ⟨v, hv, hcheck⟩ := andThen_next hu
  obtain ⟨rfl, -⟩ := checkBudget_next hv
  obtain ⟨rfl, hb⟩ := checkBudget_next ht
  obtain ⟨hkept, hboundary⟩ := intCheck_keeps hcheck
  exact .of_boundary ((hs.map.kept (addAllowance_mapKept s allowance)).kept hkept)
    (hboundary.trans (addAllowance_boundary s allowance)) hb

/-- A registered region owns the bytes of its buffer (R42, R244). -/
theorem addRegion_sound {s t : State} {base : Word} {size : Nat} {kind : RegionKind} {buffer : List Byte}
    (hs : Sound s) (h : s.addRegion base size kind buffer = .next t) : Sound t := by
  obtain ⟨hsize, -, rfl⟩ := State.addRegion_next h
  refine hs.of_map ((hs.map.append hsize).storeBuffer fun j hj => ?_)
  have hj' : j < size := Nat.lt_of_lt_of_le hj (List.length_take_le _ _)
  have hnew : (s.regions ++ [⟨base, size, kind⟩])[s.regions.length]? = some ⟨base, size, kind⟩ :=
    List.getElem?_concat_length
  simpa [bufferKey] using owned_bufferKey hnew hj' (Nat.lt_of_lt_of_le hj' hsize)

theorem poke_sound {s : State} (hs : Sound s) (region offset : Nat) (v : Byte) : Sound (s.poke region offset v) := by
  unfold State.poke
  split
  · next g hg =>
    split
    · next ho =>
      exact hs.of_map (hs.map.memWrite (owned_bufferKey hg ho (Nat.lt_of_lt_of_le ho (hs.map.size_le hg))) v)
    · exact hs
  · exact hs

theorem putIm_sound {s t : State} {mode : Nat} (hs : Sound s) (h : s.putIm mode = .next t) : Sound t := by
  unfold State.putIm at h
  split at h
  · cases h; exact hs.congr rfl
  · cases h; exact hs.congr rfl
  · cases h; exact hs.congr rfl
  · cases h

theorem perform_sound {s t : State} {act : HostAct} (hs : Sound s) (h : s.perform act = .next t) : Sound t := by
  cases act with
  | reset => cases h; exact .of_boundary hs.map rfl rfl
  | run allowance => exact enterRun_sound hs h
  | registerRegion => exact addRegion_sound hs h
  | pokeBuffer region offset v => cases h; exact poke_sound hs region offset v
  | setReg8 reg v => cases h; exact hs.congr (by cases reg <;> rfl)
  | setReg16 reg v => cases h; exact hs.congr (by cases reg <;> rfl)
  | setIm mode => exact putIm_sound hs h
  | setBudget v =>
    obtain ⟨rfl, hb⟩ := checkBudget_next h
    exact ⟨hs.map, ⟨hs.decoder.disp, hs.decoder.idle, hs.decoder.ed⟩, fun _ => hb⟩
  | _ => cases h; exact hs.congr rfl

theorem hostStep_sound {s t : State} (hs : Sound s) (h : s.hostStep = .next t) : Sound t := by
  unfold State.hostStep at h
  split at h
  · exact perform_sound hs h
  · next act rest _ => exact perform_sound (s := { s with host := rest }) (hs.congr rfl) h

/-! ## The run loop -/

/-- `run` returns between two instructions only (R234, R237). -/
theorem leaveRun_sound {s : State} (hs : Sound s) (h : s.goesOn = false) : Sound s.leaveRun := by
  have hmid : s.midInstr = false := (Bool.or_eq_false_iff.1 h).1
  refine ⟨hs.map, ⟨hs.decoder.disp, fun _ => hmid, hs.decoder.ed⟩, fun _ => ?_⟩
  unfold State.leaveRun
  cases s.halted
  · exact hs.budget hmid
  · rfl

/-- After a pending CB or ED the bytes decode as four bytes of which the first is no instruction of its own
(R83). -/
theorem decode_pending (sel : XySel) {pfx : Pfx} (next a b c d : Byte) (h : pfx ≠ .none) :
    ∃ p q r o, decode (contextBytes sel pfx next ++ [a, b, c, d]) = decode [p, q, r, o] ∧ prefixAlone p q = false := by
  cases pfx with
  | none => exact absurd rfl h
  | ed => exact ⟨0xED#8, a, b, c, rfl, rfl⟩
  | cb =>
    cases sel with
    | hl => exact ⟨0xCB#8, a, b, c, rfl, rfl⟩
    | ix => exact ⟨0xDD#8, 0xCB#8, a, b, rfl, rfl⟩
    | iy => exact ⟨0xFD#8, 0xCB#8, a, b, rfl, rfl⟩

theorem decode_of_decodeNext {s : State} {f : Fetched} (h : s.decodeNext = .ok f) :
    decode (contextBytes s.xySel s.pfx (s.peek s.pc) ++ s.window) = .ok f.instr := by
  simp only [State.decodeNext] at h
  split at h
  · next i hi => cases h; exact hi
  · cases h

/-- A CB, ED, DD or FD byte runs as an instruction of its own only where no CB or ED is pending. -/
theorem pfx_none_of_isPrefix {s : State} {f : Fetched} (h : s.decodeNext = .ok f) (hf : f.instr.isPrefix = true) :
    s.pfx = .none := by
  refine Decidable.byContradiction fun hp => ?_
  obtain ⟨p, q, r, o, hdecode, halone⟩ := decode_pending s.xySel (s.peek s.pc) (s.peek s.pc) _ _ _ hp
  obtain ⟨-, -, -, hprefix, -⟩ := FetchCounts.lengthAndFetchCounts p q r o f.instr (hdecode ▸ decode_of_decodeNext h)
  simp [hprefix, halone] at hf

/-- Settles O8: the meaning of each CB, ED, DD and FD byte is one update of the decoder state. -/
theorem prefixInstructions : Obligations.PrefixInstructions := fun _ =>
  ⟨rfl, rfl, rfl, rfl, fun x _ => by cases x <;> rfl, fun x => by cases x <;> rfl⟩

/-- A CB, ED, DD or FD byte leaves a state inside an instruction, with the displacement it found, and HL active after ED
(R83, R88). -/
theorem exec_isPrefix {s t : State} {i : Instr} (hi : i.isPrefix = true) (hp : s.pfx = .none) (h : exec i s = .next t) :
    t.midInstr = true ∧ t.disp = s.disp ∧ (t.pfx = .ed → t.xySel = .hl) := by
  obtain ⟨hdd, hfd, hcb, hed, hunused, hbeforeEd⟩ := prefixInstructions s
  cases i <;> simp only [Instr.isPrefix, reduceCtorEq] at hi
  case prefixCb => cases hcb.symm.trans h; simp [State.midInstr]
  case prefixEd => cases hed.symm.trans h; simp [State.midInstr]
  case prefixDd => cases hdd.symm.trans h; simp [State.midInstr, hp]
  case prefixFd => cases hfd.symm.trans h; simp [State.midInstr, hp]
  case xyPrefixHlNotUsed x o => cases (hunused x o).symm.trans h; cases x <;> simp [State.midInstr, hp, selector]
  case xyPrefixBeforeEd x => cases (hbeforeEd x).symm.trans h; cases x <;> simp [State.midInstr, hp, selector]

/-- What a fetch leaves of the fields the invariant looks at: all but the budget. -/
theorem afterFetch_keeps (s : State) (f : Fetched) :
    (s.afterFetch f).regions = s.regions ∧ (s.afterFetch f).mem = s.mem ∧ (s.afterFetch f).disp = s.disp ∧
    (s.afterFetch f).pfx = s.pfx ∧ (s.afterFetch f).phase = s.phase := by
  rw [State.afterFetch_frame]
  exact ⟨rfl, rfl, rfl, rfl, rfl⟩

theorem instrStep_sound {s t : State} (hs : Sound s) (hrun : s.phase ≠ .idle) (h : s.instrStep = .next t) : Sound t := by
  obtain ⟨f, u, hf, hu, ht⟩ := instrStep_next h
  obtain ⟨hregions, hmem, hdisp, hpfx, hphase⟩ := afterFetch_keeps s f
  obtain ⟨v, hv, c, -, hframe⟩ := exec_completes (s.afterFetch f) f.instr
  obtain rfl := Host.Outcome.next.inj (hv.symm.trans hu)
  have hmap : MapSound v.regions v.mem :=
    MapSound.kept (s := s.afterFetch f) (by rw [hregions, hmem]; exact hs.map) ⟨hframe.regions_eq, hframe.mem⟩
  rcases finish_next ht with ⟨hprefix, rfl⟩ | ⟨-, rfl, hb⟩
  · obtain ⟨hmid, hd, hed⟩ := exec_isPrefix hprefix (hpfx.trans (pfx_none_of_isPrefix hf hprefix)) hu
    have hphase' : t.phase = s.phase := (congrArg Fixed.phase hframe.fixed).trans hphase
    exact ⟨hmap, ⟨hd.trans (hdisp.trans hs.decoder.disp), fun hi => absurd (hphase' ▸ hi) hrun, hed⟩,
      fun hm => by simp [hmid] at hm⟩
  · exact .of_boundary hmap rfl hb

/-- Settles O59: an act of the host, one turn of the run loop, and the return of `run` each keep the
invariant. -/
theorem stepKeepsInvariant : Obligations.StepKeepsInvariant := by
  intro s t hs h
  rw [inv_iff] at hs ⊢
  rcases step_next h with ⟨-, h⟩ | ⟨hrun, -, h⟩ | ⟨-, hstays, rfl⟩
  · exact hostStep_sound hs h
  · exact instrStep_sound hs hrun h
  · exact leaveRun_sound hs hstays

end Sys2Proof.Invariant
end

section
/-! PROOFS. O7: the fetch, in the numbers of the rules. -/

namespace Sys2Proof.Fetching

open Sys2Proof.Machine Sys2Proof.Claims

/-- Bit 7 of one byte beside the other bits of another, as a sum. -/
theorem bit7_or_low (r v : Byte) :
    (r &&& 0x80#8) ||| (v &&& 0x7F#8) = BitVec.ofNat 8 (r.toNat / 128 * 128 + v.toNat % 128) := by
  have hhigh : r &&& 0x80#8 = BitVec.ofNat 8 (r.toNat / 128 * 128) := by revert r; decide +kernel
  have hlow : v &&& 0x7F#8 = BitVec.ofNat 8 (v.toNat % 128) := by revert v; decide +kernel
  have hdisjoint : (r &&& 0x80#8) &&& (v &&& 0x7F#8) = 0#8 := by
    calc (r &&& 0x80#8) &&& (v &&& 0x7F#8) = (r &&& v) &&& (0x80#8 &&& 0x7F#8) := by ac_rfl
      _ = 0#8 := by simp
  rw [← BitVec.add_eq_or_of_and_eq_zero _ _ hdisjoint, hhigh, hlow, BitVec.ofNat_add]

/-- R's count in numbers (R27). -/
theorem countR_eq_countedR (r : Byte) (n : Nat) : countR r n = countedR r n := by
  have hsum : (r + BitVec.ofNat 8 n).toNat % 128 = (r.toNat % 128 + n) % 128 := by
    simp only [BitVec.toNat_add, BitVec.toNat_ofNat]
    omega
  rw [countR, countedR, bit7_or_low, hsum]

/-- The bytes fetched after one more byte, on the record. -/
theorem fetchLog_fetchByte (s : State) (n : Nat) : fetchLog s.fetchByte n = fetchLog s (n + 1) := by
  induction n with
  | zero => simp [fetchLog, State.fetchByte]
  | succ n ih =>
    have hpc : s.fetchByte.pc + BitVec.ofNat 16 n = s.pc + BitVec.ofNat 16 (n + 1) := by
      rw [BitVec.ofNat_add, BitVec.add_comm (BitVec.ofNat 16 n), ← BitVec.add_assoc]
      rfl
    have hpeek (a : Word) : s.fetchByte.peek a = s.peek a := State.peek_congr rfl rfl rfl a
    rw [fetchLog, ih, hpc, hpeek]
    rfl

theorem fetchBytes_bus (n : Nat) (s : State) : (State.fetchBytes n s).bus = fetchLog s n := by
  induction n generalizing s with
  | zero => rfl
  | succ n ih => rw [State.fetchBytes, ih, fetchLog_fetchByte]

/-- Settles O7: the bytes read, R's count and the charge. -/
theorem fetchAdvances : Obligations.FetchAdvances := by
  intro s f
  have hcost : fetchCost s.params f = (if f.seen = 0 then 4 * f.instr.indexPrefixes else 0) +
      (if f.instr.recognized s.params ∧ f.instr.isPrefix = false then f.instr.baseCost s.params else 0) := by
    simp [fetchCost, prefixCost]
  simp only [State.afterFetch, State.charge, State.incR]
  rw [State.fetchBytes_frame, fetchBytes_bus, countR_eq_countedR, hcost]

end Sys2Proof.Fetching
end

section
/-! PROOFS. O55: the acts of the host, one lemma for each of those that are more than an update of one field. -/

namespace Sys2Proof.HostActs

open Sys2Proof.Machine Sys2Proof.Claims

/-- A step in phase idle performs the next act of the script (R244). -/
theorem step_of_idle {s : State} (h : s.phase = .idle) (act : HostAct) (acts : List HostAct) :
    step { s with host := act :: acts } = { s with host := acts }.perform act := by
  simp only [step, h]
  rfl

/-- The flag accessor writes one bit of F (R21). -/
theorem putFlag_eq_withFlag (s : State) (k : FlagName) (v : Bool) :
    s.putFlag k v = { s with regs := { s.regs with f := withFlag s.regs.f k v } } := by
  have hbit (f : Byte) : (if v then f ||| 1#8 <<< flagBit k else f &&& ~~~(1#8 <<< flagBit k)) = withFlag f k v := by
    cases k <;> cases v <;> (revert f; decide +kernel)
  simp only [State.putFlag, hbit]

theorem mkWord_eq_wordOf (hi lo : Byte) : mkWord hi lo = wordOf hi lo := by
  have := hi.isLt; have := lo.isLt
  apply BitVec.eq_of_toNat_eq
  rw [mkWord_toNat, wordOf, BitVec.toNat_ofNat]
  omega

theorem budgetInRange_iff {b : Int} : budgetInRange b = true ↔ InRange b := by
  simp [budgetInRange, InRange]

theorem checkBudget_of_not_inRange {s : State} (h : ¬ InRange s.budget) : checkBudget s = .refused .budgetRange :=
  if_neg (mt budgetInRange_iff.1 h)

/-- A registration within the limits: the bytes of the new region's buffer are placed under its number (R42, R244). -/
theorem addRegion_of_legal (s : State) (base : Word) {size : Nat} (kind : RegionKind) {buffer : List Byte}
    (hsize : size ≤ 0x10000) (hbuffer : size ≤ buffer.length) (hwf : Memory.wf s.mem = true) :
    ∃ m, Memory.wf m = true ∧
      (∀ j, memRead m j =
        if s.regions.length * 65536 ≤ j ∧ j < s.regions.length * 65536 + size
        then buffer.getD (j - s.regions.length * 65536) 0#8 else memRead s.mem j) ∧
      s.addRegion base size kind buffer = .next
        { s with regions := s.regions ++ [{ base := base, size := size, kind := kind }], mem := m } := by
  refine ⟨_, wf_storeBuffer (bufferKey s.regions.length 0) (buffer.take size) hwf, fun j => ?_, if_neg (by omega)⟩
  rw [memRead_storeBuffer _ _ _ hwf, List.length_take_of_le hbuffer, bufferKey, Nat.add_zero]
  split
  · next hj => simp [List.getD, show j - s.regions.length * 65536 < size by omega]
  · rfl

theorem addRegion_of_illegal (s : State) (base : Word) {size : Nat} (kind : RegionKind) {buffer : List Byte}
    (h : 0x10000 < size ∨ buffer.length < size) : s.addRegion base size kind buffer = .refused .badRegion := if_pos h

/-- A byte below its region's size is changed (R244). -/
theorem poke_of_lt (s : State) {k offset : Nat} (v : Byte) {g : Region} (hg : s.regions[k]? = some g)
    (ho : offset < g.size) (hwf : Memory.wf s.mem = true) :
    ∃ m, Memory.wf m = true ∧ (∀ j, memRead m j = if j = k * 65536 + offset then v else memRead s.mem j) ∧
      s.poke k offset v = { s with mem := m } := by
  refine ⟨memWrite s.mem (bufferKey k offset) v, wf_memWrite _ v hwf, fun j => ?_, by simp [State.poke, hg, ho]⟩
  split
  · next hj => exact hj ▸ memRead_memWrite_same _ v hwf
  · next hj => exact memRead_memWrite_ne _ v hj

/-- Any other byte is out of reach: nothing changes (R43). -/
theorem poke_of_le (s : State) {k offset : Nat} (v : Byte) (h : ∀ g, s.regions[k]? = some g → g.size ≤ offset) :
    s.poke k offset v = s := by
  unfold State.poke
  split
  · next g hg => exact if_neg (Nat.not_lt.2 (h g hg))
  · rfl

/-- Settles O55, act by act. -/
theorem hostActs : Obligations.HostActs := by
  intro s acts hidle t acted
  have hacted (act : HostAct) : acted act = t.perform act := step_of_idle hidle act acts
  simp only [hacted]
  refine ⟨?registers, fun _ => ⟨rfl, rfl, rfl, rfl⟩, fun _ => ⟨rfl, rfl, rfl, rfl⟩, ?flag,
    fun _ => ⟨rfl, rfl, rfl, rfl, rfl⟩, rfl, rfl, rfl, rfl, rfl, fun _ => rfl, ?budget, ?budgetRefused, ?region,
    fun _ _ _ _ => rfl, ?poke, ?resume⟩
  case registers =>
    intro r v
    cases r <;> exact ⟨rfl, rfl⟩
  case flag => exact fun k v => congrArg _ (putFlag_eq_withFlag t k v)
  case budget => exact fun v hv => checkBudget_inRange (budgetInRange_iff.2 hv)
  case budgetRefused => exact fun v hv => checkBudget_of_not_inRange hv
  case region => exact fun base size kind buffer => ⟨addRegion_of_legal t base kind, addRegion_of_illegal t base kind⟩
  case poke =>
    refine fun k offset v => ⟨fun g hg ho hwf => ?_, fun h => congrArg _ (poke_of_le t v h)⟩
    obtain ⟨m, hm, hread, hpoke⟩ := poke_of_lt t v hg ho hwf
    exact ⟨m, hm, hread, congrArg _ hpoke⟩
  case resume =>
    have hpc : t.peek16 t.sp = word s s.sp := mkWord_eq_wordOf _ _
    show Host.Outcome.next { t with pc := t.peek16 t.sp, sp := s.sp + 2, iff1 := s.iff0 } = _
    rw [hpc]

end Sys2Proof.HostActs
end

section
/-! PROOFS. O56 and O57: the memory bus in the words of the rules. The lookup finds the first region that matches; a write lands
where that region is read-write, so that no store made through the map changes what any other address reads. -/

namespace Sys2Proof.Bus

open Sys2Proof.Machine Sys2Proof.Claims Sys2Proof.Effects Sys2Proof.Invariant

/-! ## The lookup -/

theorem hits_iff (g : Region) (a : Word) : hits g a ↔ g.offset a < g.size := by
  rw [hits, Region.offset_toNat]

theorem findRegion_of_no_hit {gs : List Region} {a : Word} (h : ∀ g ∈ gs, ¬ hits g a) : findRegion gs 0 a = none := by
  refine Option.eq_none_iff_forall_ne_some.2 fun p hp => ?_
  obtain ⟨j, g, hg, hsize, -⟩ := findRegion_some hp
  exact h g (List.mem_of_getElem? hg) ((hits_iff g a).2 hsize)

/-- The first matching region is the one looked up: no earlier one matches, and a later one is not looked at (R44). -/
theorem findRegion_of_firstHit {gs : List Region} {k : Nat} {g : Region} {a : Word} (h : FirstHit gs k g a) :
    findRegion gs 0 a = some (k * 65536 + (a.toNat + 65536 - g.base.toNat) % 65536, g.kind) := by
  obtain ⟨hg, hhit, hfirst⟩ := h
  cases hp : findRegion gs 0 a with
  | none => exact absurd ((hits_iff g a).1 hhit) (findRegion_none hp g (List.mem_of_getElem? hg))
  | some p =>
    obtain ⟨j, g', hg', hsize, hkey, hkind, hfirst'⟩ := findRegion_some hp
    rcases Nat.lt_trichotomy j k with hjk | rfl | hkj
    · exact absurd ((hits_iff g' a).2 hsize) (hfirst j g' hjk hg')
    · obtain rfl := Option.some.inj (hg.symm.trans hg')
      rw [Nat.zero_add, bufferKey, Region.offset_toNat] at hkey
      rw [← hkey, ← hkind]
    · exact absurd ((hits_iff g a).1 hhit) (hfirst' k g hkj hg)

theorem findRegion_kind (gs : List Region) (n : Nat) (a : Word) :
    (findRegion gs n a).map Prod.snd = (regionOf gs a).map Region.kind := by
  induction gs generalizing n with
  | nil => rfl
  | cons g gs ih =>
    rw [findRegion, regionOf, List.find?_cons, ← Region.offset_toNat]
    by_cases hg : g.offset a < g.size
    · simp [hg]
    · rw [if_neg hg, decide_eq_false hg]
      exact ih (n + 1)

/-- In the lookup's words: a write reaches a buffer where the region found is read-write (R45). -/
theorem writable_iff {s : State} {a : Word} : writable s a = true ↔ ∃ key, findRegion s.regions 0 a = some (key, .rw) :=
  calc writable s a = true
    _ ↔ (regionOf s.regions a).map Region.kind = some .rw := by
      unfold writable
      cases regionOf s.regions a <;> simp
    _ ↔ (findRegion s.regions 0 a).map Prod.snd = some .rw := by rw [findRegion_kind]
    _ ↔ ∃ key, findRegion s.regions 0 a = some (key, .rw) := by simp

theorem findRegion_of_not_writable {s : State} {a : Word} (h : writable s a = false) (key : Nat) :
    findRegion s.regions 0 a ≠ some (key, .rw) :=
  fun hkey => Bool.false_ne_true (h.symm.trans (writable_iff.2 ⟨key, hkey⟩))

/-! ## One write -/

theorem write8_mem_of_not_writable {s : State} {a : Word} (v : Byte) (h : writable s a = false) :
    (s.write8 a v).mem = s.mem :=
  s.stored_dropped v (findRegion_of_not_writable h)

theorem memRead_write8 {s : State} {a : Word} {key : Nat} (v : Byte) (hwf : Memory.wf s.mem = true)
    (hkey : findRegion s.regions 0 a = some (key, .rw)) (j : Nat) :
    memRead (s.write8 a v).mem j = if j = key then v else memRead s.mem j := by
  have hmem : (s.write8 a v).mem = memWrite s.mem key v := by simp [State.stored, hkey]
  rw [hmem]
  split
  · next hj => exact hj ▸ memRead_memWrite_same key v hwf
  · next hj => exact memRead_memWrite_ne s.mem v hj

theorem stored_write8 (s : State) (a : Word) (v : Byte) (hwf : Memory.wf s.mem = true) :
    Stored s (s.write8 a v).mem a v := by
  refine ⟨s.wf_write8 a v hwf, fun b => ?_⟩
  by_cases hb : b = a
  · subst hb
    cases hw : writable s b with
    | true =>
      obtain ⟨key, hkey⟩ := writable_iff.1 hw
      simpa using s.peek_stored_rw v hkey hwf
    | false =>
      rw [write8_mem_of_not_writable v hw]
      simp
  · simpa [hb] using s.peek_stored_ne v hb

/-- Settles O56: what the lookup finds decides the read and the write. -/
theorem busReadsAndWrites : Obligations.BusReadsAndWrites := by
  refine ⟨fun s a k g h => ?_, fun s a h => ?_, fun s a v hwf => ⟨stored_write8 s a v hwf, rfl, ?_, ?_⟩⟩
  · simp only [State.peek, findRegion_of_firstHit h]
  · simp only [State.peek, findRegion_of_no_hit h]
  · exact fun k g h hrw => memRead_write8 v hwf (hrw ▸ findRegion_of_firstHit h)
  · exact write8_mem_of_not_writable v

/-! ## Any number of stores -/

/-- A store through the map never reaches the byte of an address that is not read-write: two addresses with one byte are one
address, and its first matching region has one kind. -/
theorem Stores.memRead_eq {gs : List Region} {m m' : List Host.Cell} (h : Stores gs m m') {a : Word} {key : Nat}
    {kind : RegionKind} (ha : findRegion gs 0 a = some (key, kind)) (hkind : kind ≠ .rw) :
    memRead m' key = memRead m key := by
  induction h with
  | refl => rfl
  | @tail m' b keyB v _ hb ih =>
    have hne : key ≠ keyB := by
      rintro rfl
      obtain rfl := findRegion_inj ha hb
      exact hkind (congrArg Prod.snd (Option.some.inj (ha.symm.trans hb)))
    rw [memRead_memWrite_ne m' v hne, ih]

/-- The map, the parameters and the stores made through the map: all that the bytes outside the read-write regions hang on. -/
structure RomKept (s t : State) : Prop where
  map    : MapKept s t
  params : t.params = s.params

theorem RomKept.peek_eq {s t : State} (h : RomKept s t) {a : Word} (ha : writable s a = false) : t.peek a = s.peek a := by
  have hro := findRegion_of_not_writable ha
  unfold State.peek
  rw [h.map.regions, h.params]
  cases hf : findRegion s.regions 0 a with
  | none => rfl
  | some p =>
    obtain ⟨key, kind⟩ := p
    exact Stores.memRead_eq h.map.mem hf fun hrw => hro key (hrw ▸ hf)

/-! ## What a run does -/

theorem intCheck_romKept {s t : State} (h : s.intCheck = .next t) : RomKept s t := by
  refine ⟨(intCheck_keeps h).1, ?_⟩
  rcases intCheck_next h with ⟨-, rfl⟩ | ⟨-, -, -, h⟩ | rfl
  · rfl
  · obtain ⟨u, k, hu, hpc⟩ := acceptIrq_next h
    have hparams : u.params = s.params := by
      rcases hu with rfl | rfl
      · rfl
      · rw [State.afterDraw_frame]
        rfl
    obtain ⟨pc, rfl⟩ | ⟨v, rfl⟩ := hpc
    · exact hparams
    · exact hparams
  · rfl

theorem exec_romKept {i : Instr} {s t : State} (h : exec i s = .next t) : RomKept s t := by
  obtain ⟨u, hu, c, -, hframe⟩ := exec_completes s i
  obtain rfl := Host.Outcome.next.inj (hu.symm.trans h)
  exact ⟨⟨hframe.regions_eq, hframe.mem⟩, congrArg Fixed.params hframe.fixed⟩

/-- An instruction's step stores what its Operation stores: the fetch and the end of the instruction store nothing. -/
theorem instrStep_romKept {s t : State} (h : s.instrStep = .next t) : RomKept s t := by
  obtain ⟨f, u, -, hu, ht⟩ := instrStep_next h
  have hexec : RomKept s u := by
    obtain ⟨⟨hregions, hmem⟩, hparams⟩ := exec_romKept hu
    rw [State.afterFetch_frame] at hregions hmem hparams
    exact ⟨⟨hregions, hmem⟩, hparams⟩
  rcases finish_next ht with ⟨-, rfl⟩ | ⟨-, rfl, -⟩
  · exact hexec
  · exact ⟨⟨hexec.map.regions, hexec.map.mem⟩, hexec.params⟩

theorem step_romKept {s t : State} (hrun : inRun s) (h : step s = .next t) : RomKept s t := by
  rcases step_next h with ⟨hidle, -⟩ | ⟨-, -, h⟩ | ⟨-, -, rfl⟩
  · exact absurd hidle hrun
  · exact instrStep_romKept h
  · exact ⟨⟨rfl, .refl⟩, rfl⟩

/-- Settles O57: a step inside a run, and the interrupt check, change memory by stores through the map only. -/
theorem romKeepsItsBytes : Obligations.RomKeepsItsBytes :=
  ⟨fun _ _ hrun h _ ha => (step_romKept hrun h).peek_eq ha, fun _ _ h _ ha => (intCheck_romKept h).peek_eq ha⟩

end Sys2Proof.Bus
end

section
/-! PROOFS. O1, O2, O3 and O48: the decoder against the encoder. `reads_decode` says once what the decoder does with any list:
the instruction it answers is well-formed, the list begins with that instruction's encoding, and the bytes after it do not
matter, but to a CB, ED, DD or FD byte alone. It is proved table by table (R91 to R96): in a table the opcode is looked at field
by field (R67), or by the lists of R86, and what remains is an instruction without operand bytes, with one or with two. -/

namespace Sys2Proof.Encoding

open Sys2Proof.Claims (unknown affected plainAffected halfForms displaced)

/-! ## What a decoder reads -/

/-- A well-formed instruction with its encoding. -/
abbrev Encodes (i : Instr) (bytes : List Byte) : Prop := i.wf = true ∧ encode i = bytes

/-- A CB, ED, DD or FD byte alone, which the byte after it belongs to (R83). -/
def Bare (i : Instr) : Prop := i = .prefixCb ∨ i = .prefixEd ∨ i = .prefixDd ∨ i = .prefixFd

/-- After the bytes `pre` the decoder `D` finds `i` at the head of `bs`: the encoding of `i` is `pre` and the first bytes of
`bs`, and no byte after those matters unless `i` is bare. -/
def HeadIs (pre : List Byte) (D : List Byte → Decoded) (bs : List Byte) (i : Instr) : Prop :=
  ∃ operands rest, bs = operands ++ rest ∧ Encodes i (pre ++ operands) ∧ (¬ Bare i → ∀ more, D (operands ++ more) = .ok i)

/-- After the bytes `pre` the decoder `D` reads the rest of an encoding. -/
def Reads (pre : List Byte) (D : List Byte → Decoded) : Prop := ∀ bs i, D bs = .ok i → HeadIs pre D bs i

section
variable {pre : List Byte} {D : List Byte → Decoded} {i : Instr}

theorem HeadIs.bare (bs : List Byte) (h : Encodes i pre) (hbare : Bare i) : HeadIs pre D bs i :=
  ⟨[], bs, rfl, by simpa using h, absurd hbare⟩

theorem HeadIs.cons {op : Byte} {bs : List Byte} (h : HeadIs (pre ++ [op]) (fun rest => D (op :: rest)) bs i) :
    HeadIs pre D (op :: bs) i := by
  obtain ⟨operands, rest, rfl, henc, hmore⟩ := h
  exact ⟨op :: operands, rest, rfl, by simpa using henc, hmore⟩

/-- A table: a list that holds an opcode byte, or one that ends before it. -/
theorem Reads.table (hnil : ∀ i, D [] = .ok i → HeadIs pre D [] i)
    (hcons : ∀ op, Reads (pre ++ [op]) (fun rest => D (op :: rest))) : Reads pre D := by
  intro bs i h
  cases bs with
  | nil => exact hnil i h
  | cons op rest => exact (hcons op rest i h).cons

theorem Reads.noOperand (h : Encodes i pre) : Reads pre (fun _ => .ok i) := by
  intro bs _ hi
  obtain rfl := Except.ok.inj hi
  exact ⟨[], bs, rfl, by simpa using h, fun _ _ => rfl⟩

theorem Reads.byte {k : Byte → Instr} (h : ∀ n, Encodes (k n) (pre ++ [n])) : Reads pre (withByte · k) := by
  intro bs i hi
  cases bs with
  | nil => cases hi
  | cons n rest =>
    obtain rfl := Except.ok.inj hi
    exact ⟨[n], rest, rfl, h n, fun _ _ => rfl⟩

theorem Reads.twoBytes {k : Byte → Byte → Instr} (hnil : ∀ i, D [] ≠ .ok i) (hone : ∀ b i, D [b] ≠ .ok i)
    (htwo : ∀ b c rest, D (b :: c :: rest) = .ok (k b c)) (h : ∀ b c, Encodes (k b c) (pre ++ [b, c])) : Reads pre D := by
  intro bs i hi
  match bs with
  | [] => exact absurd hi (hnil i)
  | [b] => exact absurd hi (hone b i)
  | b :: c :: rest =>
    obtain rfl := Except.ok.inj ((htwo b c rest).symm.trans hi)
    exact ⟨[b, c], rest, rfl, h b c, fun _ => htwo b c⟩

theorem wordBytes_mkWord (hi lo : Byte) : wordBytes (mkWord hi lo) = [lo, hi] := by
  rw [wordBytes, hiByte_mkWord, loByte_mkWord]

theorem Reads.word {k : Word → Instr} (h : ∀ nn, Encodes (k nn) (pre ++ wordBytes nn)) : Reads pre (withWord · k) :=
  .twoBytes (k := fun lo hi => k (mkWord hi lo)) nofun nofun (fun _ _ _ => rfl)
    fun lo hi => wordBytes_mkWord hi lo ▸ h (mkWord hi lo)

end

/-! ## The fields of an opcode (R67) -/

theorem opXYZ_fields (op : Byte) : opXYZ (BitVec.ofNat 2 (opX op)) (opY op) (opZ op) = op := by
  revert op; decide +kernel

theorem exists_opXYZ {op : Byte} {n : Nat} (h : opX op = n) : ∃ y z, op = opXYZ (BitVec.ofNat 2 n) y z :=
  ⟨opY op, opZ op, by rw [← h, opXYZ_fields]⟩

theorem bv2_cases (b : BitVec 2) : b = 0 ∨ b = 1 ∨ b = 2 ∨ b = 3 := by
  revert b; decide

theorem opX_cases (op : Byte) : opX op = 0 ∨ opX op = 1 ∨ opX op = 2 ∨ opX op = 3 := by
  revert op; decide +kernel

/-! ## The base table (R91) -/

theorem reads_decodeBase0 {op : Byte} (h : opX op = 0) : Reads [op] (decodeBase0 op) := by
  obtain ⟨y, z, rfl⟩ := exists_opXYZ h
  have hy := bv3_cases y
  rcases bv3_cases z with rfl | rfl | rfl | rfl | rfl | rfl | rfl | rfl
    <;> rcases hy with rfl | rfl | rfl | rfl | rfl | rfl | rfl | rfl
  -- columns 0 and 8: NOP and EX AF,AF', then the relative jumps
  iterate 2 exact .noOperand ⟨rfl, rfl⟩
  iterate 6 exact .byte fun _ => ⟨rfl, rfl⟩
  -- columns 1 and 9: LD rp,nn and ADD HL,rp
  iterate 4
    exact .word fun _ => ⟨rfl, rfl⟩
    exact .noOperand ⟨rfl, rfl⟩
  -- columns 2 and A: the loads of A, and of HL, by an address
  iterate 4 exact .noOperand ⟨rfl, rfl⟩
  iterate 4 exact .word fun _ => ⟨rfl, rfl⟩
  -- columns 3 to 5 and B to D: INC and DEC
  iterate 24 exact .noOperand ⟨rfl, rfl⟩
  -- columns 6 and E: LD r,n
  iterate 8 exact .byte fun _ => ⟨rfl, rfl⟩
  -- columns 7 and F: the operations on A and F
  iterate 8 exact .noOperand ⟨rfl, rfl⟩

theorem encodes_decodeBase1 : ∀ op : Byte, opX op = 1 → Encodes (decodeBase1 op) [op] := by
  decide +kernel

theorem encodes_decodeBase2 : ∀ op : Byte, opX op = 2 → Encodes (decodeBase2 op) [op] := by
  decide +kernel

theorem reads_decodeBase3 {op : Byte} (h : opX op = 3) : Reads [op] (decodeBase3 op) := by
  obtain ⟨y, z, rfl⟩ := exists_opXYZ h
  have hy := bv3_cases y
  rcases bv3_cases z with rfl | rfl | rfl | rfl | rfl | rfl | rfl | rfl
    <;> rcases hy with rfl | rfl | rfl | rfl | rfl | rfl | rfl | rfl
  -- columns 0, 1, 8 and 9: RET cc, POP, RET, EXX, JP (HL), LD SP,HL
  iterate 16 exact .noOperand ⟨rfl, rfl⟩
  -- columns 2 and A: JP cc,nn
  iterate 8 exact .word fun _ => ⟨rfl, rfl⟩
  -- columns 3 and B: JP nn, CB, the ports by number, then EX, DI and EI
  exact .word fun _ => ⟨rfl, rfl⟩
  exact .noOperand ⟨rfl, rfl⟩
  iterate 2 exact .byte fun _ => ⟨rfl, rfl⟩
  iterate 4 exact .noOperand ⟨rfl, rfl⟩
  -- columns 4 and C: CALL cc,nn
  iterate 8 exact .word fun _ => ⟨rfl, rfl⟩
  -- columns 5 and D: PUSH and CALL nn, then PUSH, DD, ED and FD
  exact .noOperand ⟨rfl, rfl⟩
  exact .word fun _ => ⟨rfl, rfl⟩
  iterate 6 exact .noOperand ⟨rfl, rfl⟩
  -- columns 6 and E: the ALU operations on an immediate
  iterate 8 exact .byte fun _ => ⟨rfl, rfl⟩
  -- columns 7 and F: RST
  iterate 8 exact .noOperand ⟨rfl, rfl⟩

theorem reads_decodeBase (op : Byte) : Reads [op] (decodeBase op) := by
  unfold decodeBase
  rcases opX_cases op with h | h | h | h <;> simp only [h]
  · exact reads_decodeBase0 h
  · exact .noOperand (encodes_decodeBase1 op h)
  · exact .noOperand (encodes_decodeBase2 op h)
  · exact reads_decodeBase3 h

/-! ## The CB and ED tables (R92 to R94) -/

theorem encodes_decodeCb : ∀ op : Byte, Encodes (decodeCb op) [0xCB#8, op] := by
  decide +kernel

theorem reads_decodeEd1 {op : Byte} (h : opX op = 1) : Reads [0xED#8, op] (decodeEd1 op) := by
  obtain ⟨y, z, rfl⟩ := exists_opXYZ h
  have hy := bv3_cases y
  rcases bv3_cases z with rfl | rfl | rfl | rfl | rfl | rfl | rfl | rfl
    <;> rcases hy with rfl | rfl | rfl | rfl | rfl | rfl | rfl | rfl
  -- columns 0 to 2 and 8 to A: the ports at BC, and SBC and ADC of a pair
  iterate 24 exact .noOperand ⟨rfl, rfl⟩
  -- columns 3 and B: the loads of a pair by an address
  iterate 8 exact .word fun _ => ⟨rfl, rfl⟩
  -- columns 4 to 7 and C to F
  iterate 32 exact .noOperand ⟨rfl, rfl⟩

theorem encodes_decodeEdBlock : ∀ op : Byte, edDefined op = true → opX op ≠ 1 → Encodes (decodeEdBlock op) [0xED#8, op] := by
  decide +kernel

theorem reads_decodeEd (op : Byte) : Reads [0xED#8, op] (decodeEd op) := by
  unfold decodeEd
  by_cases hdefined : edDefined op = true
  · by_cases hx : opX op = 1
    · simpa [hdefined, hx] using reads_decodeEd1 hx
    · simpa [hdefined, hx] using Reads.noOperand (encodes_decodeEdBlock op hdefined hx)
  · have hhole : Encodes (.edHole op) [0xED#8, op] := ⟨by simpa [Instr.wf] using hdefined, rfl⟩
    simpa [hdefined] using Reads.noOperand hhole

/-! ## The DD and FD tables (R86, R95) -/

/-- The index-affected opcodes are those of the rules' lists (R86). -/
theorem indexAffected_eq_affected (op : Byte) : indexAffected op = affected op := by
  revert op; decide +kernel

theorem reads_plainAffected (x : Idx) :
    ∀ n ∈ plainAffected, Reads [x.byte, BitVec.ofNat 8 n] (decodeXyOp x (BitVec.ofNat 8 n)) := by
  simp only [plainAffected, halfForms, List.cons_append, List.nil_append, List.forall_mem_cons]
  cases x
  all_goals
    and_intros
    -- HL as a pair: 21, 22 and 2A with a word
    iterate 3 exact .word fun _ => ⟨rfl, rfl⟩
    iterate 11 exact .noOperand ⟨rfl, rfl⟩
    -- H and L: 26 and 2E with a byte
    iterate 2
      iterate 2 exact .noOperand ⟨rfl, rfl⟩
      exact .byte fun _ => ⟨rfl, rfl⟩
    iterate 40 exact .noOperand ⟨rfl, rfl⟩
    exact nofun

theorem reads_displaced (x : Idx) :
    ∀ n ∈ displaced, Reads [x.byte, BitVec.ofNat 8 n] (decodeXyOp x (BitVec.ofNat 8 n)) := by
  simp only [displaced, List.cons_append, List.nil_append, List.forall_mem_cons]
  cases x
  all_goals
    and_intros
    iterate 2 exact .byte fun _ => ⟨rfl, rfl⟩
    -- 36: LD (XY+d),n
    exact .twoBytes nofun nofun (fun _ _ _ => rfl) fun _ _ => ⟨rfl, rfl⟩
    iterate 22 exact .byte fun _ => ⟨rfl, rfl⟩
    exact nofun

theorem reads_decodeXyOp (x : Idx) {op : Byte} (h : indexAffected op = true) : Reads [x.byte, op] (decodeXyOp x op) := by
  have hop : BitVec.ofNat 8 op.toNat = op := by simp
  rw [indexAffected_eq_affected, affected, List.contains_iff_mem, List.mem_append] at h
  rw [← hop]
  exact h.elim (reads_plainAffected x _) (reads_displaced x _)

/-! ## The DDCB and FDCB tables (R90, R96) -/

theorem code_of_reg8Of {v : BitVec 3} {s : Reg8} (h : reg8Of v = some s) : v = s.code := by
  rcases bv3_cases v with rfl | rfl | rfl | rfl | rfl | rfl | rfl | rfl <;> cases h <;> rfl

theorem eq_six_of_reg8Of {v : BitVec 3} (h : reg8Of v = none) : v = 6 := by
  revert v; decide

theorem encodes_shiftMXy (x : Idx) (d : Byte) (y : BitVec 3) : Encodes (shiftMXy x d y) (xyCbBytes x d (opXYZ 0 y 6)) := by
  rcases bv3_cases y with rfl | rfl | rfl | rfl | rfl | rfl | rfl | rfl <;> exact ⟨rfl, rfl⟩

theorem encodes_shiftMXyR (x : Idx) (d : Byte) (y : BitVec 3) (s : Reg8) :
    Encodes (shiftMXyR x d y s) (xyCbBytes x d (opXYZ 0 y s.code)) := by
  rcases bv3_cases y with rfl | rfl | rfl | rfl | rfl | rfl | rfl | rfl <;> exact ⟨rfl, rfl⟩

theorem encodes_decodeXyCb (x : Idx) (d op : Byte) : Encodes (decodeXyCb x d op) (xyCbBytes x d op) := by
  have fields : ∀ (n : BitVec 2) (y z : BitVec 3),
      opX (opXYZ n y z) = n.toNat ∧ opY (opXYZ n y z) = y ∧ opZ (opXYZ n y z) = z := by decide +kernel
  obtain ⟨n, y, z, rfl⟩ : ∃ n y z, op = opXYZ n y z := ⟨_, _, _, (opXYZ_fields op).symm⟩
  obtain ⟨hopX, hopY, hopZ⟩ := fields n y z
  rw [decodeXyCb, hopX, hopY, hopZ]
  have hn := bv2_cases n
  cases hz : reg8Of z with
  | some s =>
    obtain rfl := code_of_reg8Of hz
    rcases hn with rfl | rfl | rfl | rfl
    · exact encodes_shiftMXyR x d y s
    all_goals exact ⟨rfl, rfl⟩
  | none =>
    obtain rfl := eq_six_of_reg8Of hz
    rcases hn with rfl | rfl | rfl | rfl
    · exact encodes_shiftMXy x d y
    all_goals exact ⟨rfl, rfl⟩

/-! ## All tables -/

theorem idxOf_eq_none {op : Byte} : idxOf op = none ↔ op ≠ 0xDD#8 ∧ op ≠ 0xFD#8 := by
  revert op; decide +kernel

theorem reads_afterIndexPrefix (x : Idx) {op : Byte} (h : idxOf op = none) :
    Reads [x.byte, op] (fun rest => decodeXy x (op :: rest)) := by
  unfold decodeXy
  by_cases hed : op = 0xED#8
  · subst hed; exact .noOperand ⟨rfl, rfl⟩
  by_cases hcb : op = 0xCB#8
  · subst hcb
    exact .twoBytes nofun nofun (fun _ _ _ => rfl) (encodes_decodeXyCb x)
  by_cases haffected : indexAffected op = true
  · simpa [h, hed, hcb, haffected] using reads_decodeXyOp x haffected
  · have hunused : Encodes (.xyPrefixHlNotUsed x op) [x.byte, op] := by
      obtain ⟨hdd, hfd⟩ := idxOf_eq_none.1 h
      simp [Encodes, encode, Instr.wf, isPrefixByte, haffected, hcb, hdd, hed, hfd]
    simpa [h, hed, hcb, haffected] using Reads.noOperand hunused

theorem reads_decodeXy (x : Idx) : Reads [x.byte] (decodeXy x) := by
  have halone (bs : List Byte) : HeadIs [x.byte] (decodeXy x) bs (prefixOf x) :=
    .bare bs (by cases x <;> exact ⟨rfl, rfl⟩) (by cases x <;> simp [Bare, prefixOf])
  intro bs i hi
  match bs with
  | [] => exact Except.ok.inj hi ▸ halone []
  | op :: rest =>
    cases h : idxOf op with
    | none => exact (reads_afterIndexPrefix x h rest i hi).cons
    | some y =>
      simp only [decodeXy, h, Option.isSome_some, if_true] at hi
      exact Except.ok.inj hi ▸ halone (op :: rest)

theorem reads_decode : Reads [] decode := by
  refine .table nofun fun op => ?_
  cases h : isPrefixByte op with
  | false =>
    simp only [FetchCounts.decode_of_not_prefix op _ h]
    exact reads_decodeBase op
  | true =>
    simp only [isPrefixByte, Bool.or_eq_true, beq_iff_eq] at h
    obtain ((rfl | rfl) | rfl) | rfl := h
    · refine .table ?_ fun op2 => .noOperand (encodes_decodeCb op2)
      intro i hi
      exact Except.ok.inj hi ▸ .bare [] ⟨rfl, rfl⟩ (by simp [Bare])
    · exact reads_decodeXy .ix
    · refine .table ?_ reads_decodeEd
      intro i hi
      exact Except.ok.inj hi ▸ .bare [] ⟨rfl, rfl⟩ (by simp [Bare])
    · exact reads_decodeXy .iy

/-- Settles O3: what the decoder reads, from the first byte on. -/
theorem encodeOfDecode : Obligations.EncodeOfDecode := by
  intro bs i h
  obtain ⟨operands, rest, rfl, ⟨hwf, henc⟩, -⟩ := reads_decode bs i h
  exact ⟨hwf, rest, by rw [henc, List.nil_append]⟩

open Laws.RoundTrip in
/-- The round trip of every instruction (R66), one constructor at a time. -/
theorem roundTrip (i : Instr) : Statement i :=
  match i with
  | .nop => nop | .ldRpNn p nn => ldRpNn p nn | .ldMBcA => ldMBcA | .ldMDeA => ldMDeA | .ldMNnHl nn => ldMNnHl nn
  | .ldMNnA nn => ldMNnA nn | .ldAMBc => ldAMBc | .ldAMDe => ldAMDe | .ldHlMNn nn => ldHlMNn nn
  | .ldAMNn nn => ldAMNn nn | .incRp p => incRp p | .decRp p => decRp p | .incR r => incR r | .incMHl => incMHl
  | .decR r => decR r | .decMHl => decMHl | .ldRN r n => ldRN r n | .ldMHlN n => ldMHlN n | .rlca => rlca
  | .rrca => rrca | .rla => rla | .rra => rra | .daa => daa | .cpl => cpl | .scf => scf | .ccf => ccf
  | .exAfAf => exAfAf | .djnz e => djnz e | .jr e => jr e | .jrCc cc e => jrCc cc e | .addHlRp p => addHlRp p
  | .ldRR r q => ldRR r q | .ldRMHl r => ldRMHl r | .ldMHlR q => ldMHlR q | .halt => halt | .addAR q => addAR q
  | .addAMHl => addAMHl | .addAN n => addAN n | .adcAR q => adcAR q | .adcAMHl => adcAMHl | .adcAN n => adcAN n
  | .subR q => subR q | .subMHl => subMHl | .subN n => subN n | .sbcAR q => sbcAR q | .sbcAMHl => sbcAMHl
  | .sbcAN n => sbcAN n | .andR q => andR q | .andMHl => andMHl | .andN n => andN n | .xorR q => xorR q
  | .xorMHl => xorMHl | .xorN n => xorN n | .orR q => orR q | .orMHl => orMHl | .orN n => orN n | .cpR q => cpR q
  | .cpMHl => cpMHl | .cpN n => cpN n | .retCc cc => retCc cc | .popQq p => popQq p | .ret => ret | .exx => exx
  | .jpHl => jpHl | .ldSpHl => ldSpHl | .jpCcNn cc nn => jpCcNn cc nn | .jpNn nn => jpNn nn | .outNA n => outNA n
  | .inAN n => inAN n | .exMSpHl => exMSpHl | .exDeHl => exDeHl | .di => di | .ei => ei
  | .callCcNn cc nn => callCcNn cc nn | .pushQq p => pushQq p | .callNn nn => callNn nn | .rst t => rst t
  | .prefixCb => prefixCb | .prefixEd => prefixEd | .prefixDd => prefixDd | .prefixFd => prefixFd | .rlcR q => rlcR q
  | .rlcMHl => rlcMHl | .rrcR q => rrcR q | .rrcMHl => rrcMHl | .rlR q => rlR q | .rlMHl => rlMHl | .rrR q => rrR q
  | .rrMHl => rrMHl | .slaR q => slaR q | .slaMHl => slaMHl | .sraR q => sraR q | .sraMHl => sraMHl | .sllR q => sllR q
  | .sllMHl => sllMHl | .srlR q => srlR q | .srlMHl => srlMHl | .bitBR b q => bitBR b q | .bitBMHl b => bitBMHl b
  | .resBR b q => resBR b q | .resBMHl b => resBMHl b | .setBR b q => setBR b q | .setBMHl b => setBMHl b
  | .inRC r => inRC r | .inC => inC | .outCR r => outCR r | .outC0 => outC0 | .sbcHlRp p => sbcHlRp p
  | .adcHlRp p => adcHlRp p | .ldMNnRp p nn => ldMNnRp p nn | .ldRpMNn p nn => ldRpMNn p nn | .neg => neg
  | .negMirror y => negMirror y | .retn => retn | .reti => reti | .retnMirror y => retnMirror y | .im0 => im0
  | .im1 => im1 | .im2 => im2 | .im0Mirror y => im0Mirror y | .im1Mirror => im1Mirror | .im2Mirror => im2Mirror
  | .ldIA => ldIA | .ldRA => ldRA | .ldAI => ldAI | .ldAR => ldAR | .rrd => rrd | .rld => rld | .ldi => ldi
  | .ldd => ldd | .ldir => ldir | .lddr => lddr | .cpi => cpi | .cpd => cpd | .cpir => cpir | .cpdr => cpdr
  | .ini => ini | .ind => ind | .inir => inir | .indr => indr | .outi => outi | .outd => outd | .otir => otir
  | .otdr => otdr | .edHole o => edHole o | .addXyRp x p => addXyRp x p | .ldXyNn x nn => ldXyNn x nn
  | .ldMNnXy x nn => ldMNnXy x nn | .ldXyMNn x nn => ldXyMNn x nn | .incXy x => incXy x | .decXy x => decXy x
  | .incMXy x d => incMXy x d | .decMXy x d => decMXy x d | .ldMXyN x d n => ldMXyN x d n | .ldRMXy x r d => ldRMXy x r d
  | .ldMXyR x d q => ldMXyR x d q | .addAMXy x d => addAMXy x d | .adcAMXy x d => adcAMXy x d | .subMXy x d => subMXy x d
  | .sbcAMXy x d => sbcAMXy x d | .andMXy x d => andMXy x d | .xorMXy x d => xorMXy x d | .orMXy x d => orMXy x d
  | .cpMXy x d => cpMXy x d | .popXy x => popXy x | .pushXy x => pushXy x | .exMSpXy x => exMSpXy x | .jpXy x => jpXy x
  | .ldSpXy x => ldSpXy x | .incXyHalf x h => incXyHalf x h | .decXyHalf x h => decXyHalf x h
  | .ldXyHalfN x h n => ldXyHalfN x h n | .ldRXyHalf x r h => ldRXyHalf x r h | .ldXyHalfS x h q => ldXyHalfS x h q
  | .addAXyHalf x h => addAXyHalf x h | .adcAXyHalf x h => adcAXyHalf x h | .subXyHalf x h => subXyHalf x h
  | .sbcAXyHalf x h => sbcAXyHalf x h | .andXyHalf x h => andXyHalf x h | .xorXyHalf x h => xorXyHalf x h
  | .orXyHalf x h => orXyHalf x h | .cpXyHalf x h => cpXyHalf x h | .xyPrefixHlNotUsed x o => xyPrefixHlNotUsed x o
  | .xyPrefixBeforeEd x => xyPrefixBeforeEd x | .rlcMXy x d => rlcMXy x d | .rlcMXyR x d q => rlcMXyR x d q
  | .rrcMXy x d => rrcMXy x d | .rrcMXyR x d q => rrcMXyR x d q | .rlMXy x d => rlMXy x d | .rlMXyR x d q => rlMXyR x d q
  | .rrMXy x d => rrMXy x d | .rrMXyR x d q => rrMXyR x d q | .slaMXy x d => slaMXy x d | .slaMXyR x d q => slaMXyR x d q
  | .sraMXy x d => sraMXy x d | .sraMXyR x d q => sraMXyR x d q | .sllMXy x d => sllMXy x d
  | .sllMXyR x d q => sllMXyR x d q | .srlMXy x d => srlMXy x d | .srlMXyR x d q => srlMXyR x d q
  | .bitBMXy x d b => bitBMXy x d b | .bitBMXyMirror x d b q => bitBMXyMirror x d b q | .resBMXy x d b => resBMXy x d b
  | .resBMXyR x d b q => resBMXyR x d b q | .setBMXy x d b => setBMXy x d b | .setBMXyR x d b q => setBMXyR x d b q

/-- Settles O2: the round trip, and that the decoder looks at no byte after an encoding. -/
theorem decodeOfEncode : Obligations.DecodeOfEncode := by
  intro i hwf
  have h := roundTrip i hwf
  refine ⟨h, fun more hcb hed hdd hfd => ?_⟩
  obtain ⟨operands, rest, -, ⟨-, henc⟩, hmore⟩ := reads_decode _ i h
  rw [henc, List.nil_append]
  exact hmore (by simp [Bare, hcb, hed, hdd, hfd]) more

/-! ## Words and holes -/

/-- Settles O1, word by word. -/
theorem decodesSpecWords : Obligations.DecodesSpecWords := by
  unfold Obligations.DecodesSpecWords
  and_intros <;> rfl

/-- The rules' list of holes (R93): none of them is a defined ED opcode. -/
theorem wf_edHole_of_listed : ∀ o : Byte, (o.toNat < 0x40 ∨ (0x80 ≤ o.toNat ∧ o.toNat < 0xA0) ∨ 0xC0 ≤ o.toNat ∨
    o = 0x77#8 ∨ o = 0x7F#8 ∨ (0xA0 ≤ o.toNat ∧ 4 ≤ o.toNat % 8)) → (Instr.edHole o).wf = true := by
  decide +kernel

theorem raiseUnknown_edHole (s : Machine.State) (o : Byte) : s.raiseUnknown (.edHole o) = unknown s .ed o := rfl

/-- Settles O48: the listed opcodes are holes, and a hole is recognized under ED_HOLES = nop only. -/
theorem holesOfTheEdTable : Obligations.HolesOfTheEdTable := by
  refine ⟨fun o h => decode_hole o (wf_edHole_of_listed o h), fun o s => ?_⟩
  have hexec : Machine.exec (.edHole o) s = .next (s.ifRecognized (.edHole o) id) := rfl
  rw [hexec, Machine.State.ifRecognized, raiseUnknown_edHole]
  cases h : s.params.edHoles <;> simp [Instr.recognized, h]

end Sys2Proof.Encoding
end

section
/-! PROOFS. O43: the jumps. A jump that a condition guards is taken or not (`when_jump`); the condition, the relative target and
the conditional extra are each the rules' own. -/

namespace Sys2Proof.Jumping

open Sys2Proof.Machine Sys2Proof.Claims Sys2Proof.HostActs

/-! ## The rules' words for the model's -/

theorem bitAt_eq_bitOf (v : Byte) (k : Nat) : bitAt v k = bitOf v k := by
  rw [bitAt, BitVec.getLsbD, Nat.testBit_eq_decide_div_mod_eq]
  rfl

/-- The table of conditions (R71). -/
theorem cond_eq_condTrue (s : State) (cc : Cond) : s.cond cc = condTrue s.regs.f cc := by
  cases cc <;> simp only [State.cond, condHolds, condTrue, bitAt_eq_bitOf]

/-- The target of a relative jump (R78). -/
theorem pc_add_sext (s : State) (e : Byte) : s.pc + sext e = relative s e := by
  rw [relative, BitVec.ofInt_add, BitVec.ofInt_natCast, BitVec.ofNat_toNat, BitVec.setWidth_eq]
  rfl

/-- The extra that is charged is the default table's, or the parameter's own (R9, R256). -/
theorem extra_eq (s : State) {i : Instr} {n : Nat} (h : (cycleTable.getD i.row (0, 0)).2 = n) :
    extra s i n = s.budget - (i.extraCost s.params : Nat) := by
  unfold extra
  split
  · next hc => rw [← h, Instr.extraCost, Params.costOf, hc]; rfl
  · rfl

/-! ## The jumps a condition guards -/

/-- A guarded jump, with its conditional extra where it is taken. -/
theorem when_jump (s : State) (c : Bool) (target : State → Word) {i : Instr} {n : Nat}
    (h : (cycleTable.getD i.row (0, 0)).2 = n) :
    s.when c (fun t => (t.setPc (target t)).chargeExtra i) =
      if c then { s with pc := target s, budget := extra s i n } else s := by
  rw [extra_eq s h]
  rfl

theorem decode_jpCcNn (cc : Cond) (lo hi : Byte) :
    decode [BitVec.ofNat 8 (0xC2 + 8 * condNo cc), lo, hi] = .ok (.jpCcNn cc (wordOf hi lo)) := by
  rw [← mkWord_eq_wordOf]
  cases cc <;> rfl

theorem exec_jpCcNn (s : State) (cc : Cond) (nn : Word) : exec (.jpCcNn cc nn) s = .next
    (if condTrue s.regs.f cc then { s with pc := nn, budget := extra s (.jpCcNn cc nn) 0 } else s) := by
  rw [← cond_eq_condTrue]
  exact congrArg _ (when_jump s _ (fun _ => nn) rfl)

theorem exec_jrCc (s : State) (cc : JrCond) (e : Byte) : exec (.jrCc cc e) s = .next
    (if condTrue s.regs.f (jrCond cc) then { s with pc := relative s e, budget := extra s (.jrCc cc e) 5 } else s) := by
  have hcc : jrCond cc = cc.cond := by cases cc <;> rfl
  rw [hcc, ← cond_eq_condTrue, ← pc_add_sext]
  exact congrArg _ (when_jump s _ (fun t => t.pc + sext e) rfl)

/-- DJNZ counts B down modulo 2^8 (R202). -/
theorem sub_one_eq (b : Byte) : b - 1 = BitVec.ofNat 8 (b.toNat + 255) := by
  revert b; decide +kernel

theorem sub_one_bne_zero (b : Byte) : (b - 1 != 0) = decide (b ≠ 1#8) := by
  revert b; decide +kernel

theorem exec_djnz (s : State) (e : Byte) : exec (.djnz e) s = .next
    (let t := { s with regs := { s.regs with b := BitVec.ofNat 8 (s.regs.b.toNat + 255) } }
     if s.regs.b = 1#8 then t else { t with pc := relative s e, budget := extra s (.djnz e) 5 }) := by
  have hexec : exec (.djnz e) s = .next ((s.setB (s.regs.b - 1)).when (s.regs.b - 1 != 0)
    (fun t => (t.setPc (t.pc + sext e)).chargeExtra (.djnz e))) := rfl
  rw [hexec, when_jump (n := 5) _ _ (fun t => t.pc + sext e) rfl, sub_one_bne_zero, pc_add_sext, sub_one_eq]
  simp only [decide_eq_true_eq, ite_not]
  rfl

/-- Settles O43, jump by jump. -/
theorem jumps : Obligations.Jumps := by
  intro s
  refine ⟨fun lo hi => ⟨?_, fun cc => decode_jpCcNn cc lo hi⟩, fun nn => ⟨rfl, fun cc => exec_jpCcNn s cc nn⟩, rfl, ?_,
    fun x => ⟨by cases x <;> rfl, by cases x <;> rfl⟩,
    fun e => ⟨rfl, ?_, fun cc => ⟨by cases cc <;> rfl, exec_jrCc s cc e⟩, rfl, exec_djnz s e⟩⟩
  · rw [← mkWord_eq_wordOf]; rfl
  · rw [hl, ← mkWord_eq_wordOf]; rfl
  · rw [← pc_add_sext]; rfl

end Sys2Proof.Jumping
end

section
/-! PROOFS. O6 and O9: a step inside a run is the instruction that the bytes at PC end (`step_of_decode`), after the DD or FD
byte that belongs to it, if there is one. -/

namespace Sys2Proof.Stepping

open Sys2Proof.Machine Sys2Proof.Claims

/-! ## A step that goes on -/

theorem step_of_goesOn {s : State} (hrun : inRun s) (hgoes : s.goesOn = true) : step s = s.instrStep := by
  have hstep : s.runStep = s.instrStep := by rw [State.runStep, if_pos hgoes]
  unfold step
  cases hphase : s.phase with
  | idle => exact absurd hphase hrun
  | budgeted => exact hstep
  | untilHalt => exact hstep

/-- The step of the instruction that the bytes at PC end, after the bytes `context` already consumed (R81). -/
theorem step_of_decode {s : State} {context : List Byte} {i : Instr} (hrun : inRun s) (hgoes : s.goesOn = true)
    (hcontext : contextBytes s.xySel s.pfx (s.peek s.pc) = context) (hi : decode (context ++ s.window) = .ok i) :
    step s = andThen (exec i (s.afterFetch ⟨i, context.length⟩)) (finish i) := by
  have hnext : s.decodeNext = .ok ⟨i, context.length⟩ := by simp only [State.decodeNext, hcontext, hi]
  rw [step_of_goesOn hrun hgoes, State.instrStep, hnext]

theorem goesOn_of_ready {s : State} (h : Ready s) : s.goesOn = true := by
  obtain ⟨-, -, hhalted, hloop⟩ := h
  simp [State.goesOn, hhalted, hloop]

theorem goesOn_of_selected {s : State} {x : Idx} (h : s.xySel = selector x) : s.goesOn = true := by
  cases x <;> simp [State.goesOn, State.midInstr, h, selector]

/-! ## What the end of an instruction does -/

theorem finish_prefix {i : Instr} (h : i.isPrefix = true) (t : State) : finish i t = .next t := by
  rw [finish, if_pos h]

theorem budgetInRange_iff {b : Int} : budgetInRange b = true ↔ InRange b := by
  simp [budgetInRange, InRange]

theorem finish_boundary {i : Instr} (h : i.isPrefix = false) (t : State) :
    finish i t = if budgetInRange t.budget then .next t.atBoundary else .refused .budgetRange := by
  simp only [finish, h, Bool.false_eq_true, if_false]
  rfl

/-- Settles O6: at a boundary no byte is pending. -/
theorem stepRunsDecodedInstruction : Obligations.StepRunsDecodedInstruction := by
  refine ⟨fun s i hready hi => ?_, fun i t h => finish_prefix h t, fun i t h hb => ?_, fun i t h hb => ?_⟩
  · have hgoes := goesOn_of_ready hready
    obtain ⟨hrun, hboundary, -⟩ := hready
    simp only [State.boundary, Bool.and_eq_true, beq_iff_eq] at hboundary
    obtain ⟨⟨hsel, -⟩, hpfx⟩ := hboundary
    exact step_of_decode (context := []) hrun hgoes (by rw [hsel, hpfx]; rfl) hi
  · rw [finish_boundary h, if_pos (budgetInRange_iff.2 hb)]
    rfl
  · rw [finish_boundary h, if_neg (mt budgetInRange_iff.1 hb)]

/-! ## A DD or FD byte -/

/-- The instructions that are a DD or FD byte of their own (R84, R87, R88). -/
inductive Alone (x : Idx) : Instr → Prop where
  | redundant : Alone x (prefixOf x)
  | beforeEd : Alone x (.xyPrefixBeforeEd x)
  | notUsed (o : Byte) : Alone x (.xyPrefixHlNotUsed x o)

theorem decode_prefixByte (x : Idx) (bs : List Byte) : decode (prefixByte x :: bs) = decodeXy x bs := by
  cases x <;> rfl

/-- A byte that no DD or FD byte before it belongs to (R83, R86). -/
theorem decode_alone (x : Idx) {b : Byte} (bs : List Byte) (hcb : b ≠ 0xCB#8) (h : affected b = false) :
    ∃ i, decode (prefixByte x :: b :: bs) = .ok i ∧ Alone x i := by
  rw [← Encoding.indexAffected_eq_affected] at h
  simp only [decode_prefixByte, decodeXy, beq_eq_false_iff_ne.2 hcb, h, Bool.false_eq_true, if_false]
  split
  · exact ⟨_, rfl, .redundant⟩
  · split
    · exact ⟨_, rfl, .beforeEd⟩
    · exact ⟨_, rfl, .notUsed b⟩

theorem Alone.exec {x : Idx} {i : Instr} (h : Alone x i) (t : State) :
    exec i t = .next { t with xySel := selector x } := by
  obtain ⟨hdd, hfd, -, -, hunused, hbeforeEd⟩ := Invariant.prefixInstructions t
  cases h with
  | redundant => cases x <;> assumption
  | beforeEd => exact hbeforeEd x
  | notUsed o => exact hunused x o

/-- The numbers of such a byte: one byte, one M1 fetch, and its 4 cycles to charge (R81, R82). -/
theorem Alone.numbers {x : Idx} {i : Instr} (h : Alone x i) :
    i.isPrefix = true ∧ i.indexPrefixes = 1 ∧ i.m1 = 1 ∧ ∀ p, i.fetchSize p = 1 := by
  cases h <;> cases x <;> exact ⟨rfl, rfl, rfl, fun _ => rfl⟩

theorem Alone.afterFetch {x : Idx} {i : Instr} (h : Alone x i) (s : State) :
    s.afterFetch ⟨i, 0⟩ = { s with
      pc := s.pc + 1, r := countedR s.r 1, bus := .memRead s.pc (s.peek s.pc) :: s.bus, budget := s.budget - 4 } := by
  obtain ⟨hprefix, hprefixes, hm1, hsize⟩ := h.numbers
  rw [Fetching.fetchAdvances]
  simp [hprefix, hprefixes, hm1, hsize, fetchLog]

/-! ## The byte after a DD or FD byte -/

theorem contextBytes_ignored (sel : XySel) {o : Byte} (hcb : o ≠ 0xCB#8) (h : affected o = false) :
    contextBytes sel .none o = [] := by
  cases sel <;> simp [contextBytes, selIdx, takesIndex, Encoding.indexAffected_eq_affected, hcb, h]

theorem contextBytes_taken (x : Idx) {o : Byte} (h : affected o = true ∨ o = 0xCB#8) :
    contextBytes (selector x) .none o = [prefixByte x] := by
  have htakes : takesIndex o = true := by
    rcases h with h | rfl
    · rw [takesIndex, Encoding.indexAffected_eq_affected, h, Bool.or_true]
    · rfl
  cases x <;> exact if_pos htakes

/-- No DD or FD byte before DD, FD or ED belongs to it (R84, R88). -/
theorem ignored_of_listed {b : Byte} (h : b = 0xDD#8 ∨ b = 0xFD#8 ∨ b = 0xED#8 ∨ (b ≠ 0xCB#8 ∧ affected b = false)) :
    b ≠ 0xCB#8 ∧ affected b = false := by
  rcases h with rfl | rfl | rfl | h
  · decide
  · decide
  · decide
  · exact h

/-- Settles O9: a DD or FD byte of its own, and the byte that ends the instruction, read with the one before it or without. -/
theorem indexPrefixSteps : Obligations.IndexPrefixSteps := by
  refine ⟨fun s x hrun hpfx hon hbyte hnext => ?_, fun s x i hrun hpfx hsel htakes hi => ?_,
    fun s x i hrun hpfx hsel hunaffected hcb hi => ?_⟩
  · obtain ⟨hcb, hunaffected⟩ := ignored_of_listed hnext
    obtain ⟨i, hi, halone⟩ := decode_alone x [s.peek (s.pc + 2), s.peek (s.pc + 3)] hcb hunaffected
    have hgoes : s.goesOn = true := hon.elim goesOn_of_ready fun hmid => by simp [State.goesOn, hmid]
    have hcontext : contextBytes s.xySel s.pfx (s.peek s.pc) = [] := by
      rw [hpfx, hbyte]
      cases x <;> exact contextBytes_ignored _ (by decide) (by decide)
    rw [← hbyte] at hi
    rw [step_of_decode hrun hgoes hcontext hi, List.length_nil, halone.afterFetch, halone.exec, hbyte]
    exact finish_prefix halone.numbers.1 _
  · exact step_of_decode (context := [prefixByte x]) hrun (goesOn_of_selected hsel)
      (by rw [hpfx, hsel, contextBytes_taken x htakes]) hi
  · exact step_of_decode (context := []) hrun (goesOn_of_selected hsel)
      (by rw [hpfx, contextBytes_ignored _ hcb hunaffected]) hi

end Sys2Proof.Stepping
end

section
/-! PROOFS. The flag byte of the model (R21) in the terms of the rules: its bits one by one, and the flags of the 8-bit
operations (R102, R103, R111 to R121). The model reads half carry and overflow off the bits that carries change, the rules say
them by sums of the operands; both hang on one fact, that bit `k` of `a ^ b ^ (a + b + c)` is the carry into bit `k`. -/

namespace Sys2Proof.Flags

open Sys2Proof.Machine Sys2Proof.Claims Sys2Proof.Jumping

/-! ## The bits of F (R21) -/

theorem packF_eq_fByte (fs fz f5 fh f3 fpv fn fc : Bool) :
    packF fs fz f5 fh f3 fpv fn fc = fByte fs fz f5 fh f3 fpv fn fc := by
  revert fs fz f5 fh f3 fpv fn fc; decide

@[simp] theorem bitOf_fByte (fs fz f5 fh f3 fpv fn fc : Bool) :
    let f := fByte fs fz f5 fh f3 fpv fn fc
    bitOf f 7 = fs ∧ bitOf f 6 = fz ∧ bitOf f 5 = f5 ∧ bitOf f 4 = fh ∧ bitOf f 3 = f3 ∧ bitOf f 2 = fpv ∧
      bitOf f 1 = fn ∧ bitOf f 0 = fc := by
  revert fs fz f5 fh f3 fpv fn fc; decide

theorem flagC_eq_cy (f : Byte) : flagC f = cy f := bitAt_eq_bitOf f 0

/-- Bit 7 of a result, as S is taken from it (R101). -/
theorem bitOf_seven (v : Byte) : bitOf v 7 = decide (128 ≤ v.toNat) := by
  revert v; decide +kernel

theorem beq_zero (v : Byte) : (v == 0#8) = decide (v.toNat = 0) := by
  revert v; decide +kernel

theorem parity_eq_evenBits (v : Byte) : parity v = evenBits v := by
  revert v; decide +kernel

/-! ## Addition (R102) -/

theorem sum8_eq_add (a b : Byte) (c : Bool) : sum8 a b c = a + b + (BitVec.ofBool c).setWidth 8 := by
  cases c <;> simp [sum8, BitVec.ofNat_add]

theorem toNat_sum8 (a b : Byte) (c : Bool) : (sum8 a b c).toNat = (a.toNat + b.toNat + c.toNat) % 256 :=
  BitVec.toNat_ofNat _ _

/-- What an addition does to bit `k`, besides adding the two bits there, is the carry into it. -/
theorem bitAt_xor_sum8 (a b : Byte) (c : Bool) {k : Nat} (hk : k < 8) :
    bitAt (a ^^^ b ^^^ sum8 a b c) k = decide (2 ^ k ≤ a.toNat % 2 ^ k + b.toNat % 2 ^ k + c.toNat) := by
  rw [sum8_eq_add, bitAt, BitVec.getLsbD_xor, BitVec.getLsbD_xor, BitVec.getLsbD_add_add_bool hk, BitVec.carry]
  cases a.getLsbD k <;> cases b.getLsbD k <;> simp

/-- Signed overflow: the carries into bit 7 and out of it differ. -/
theorem carries_eq_overflow8 (a b : Byte) (c : Bool) :
    (decide (128 ≤ a.toNat % 128 + b.toNat % 128 + c.toNat) ^^ decide (255 < a.toNat + b.toNat + c.toNat)) =
      overflow8 (a.toInt + b.toInt + c.toNat) := by
  have := a.isLt; have := b.isLt; have := c.toNat_lt
  rw [overflow8, BitVec.toInt_eq_toNat_cond, BitVec.toInt_eq_toNat_cond, Bool.eq_iff_iff]
  simp only [bne_iff_ne, ne_eq, decide_eq_decide, Bool.or_eq_true, decide_eq_true_eq]
  split <;> split <;> omega

theorem addWithCarry_eq (a b : Byte) (c : Bool) : addWithCarry a b c = ⟨sum8 a b c, addF a b c⟩ := by
  have hr : BitVec.ofNat 8 (a.toNat + b.toNat + c.toNat) = sum8 a b c := rfl
  simp only [addWithCarry, addF, hr, packF_eq_fByte, bitAt_xor_sum8 a b c, Nat.reducePow, Nat.reduceLT,
    carries_eq_overflow8, beq_zero, bitAt_eq_bitOf, bitOf_seven]
  rfl

/-! ## Subtraction (R103) -/

theorem toNat_diff8 (a b : Byte) (c : Bool) : (diff8 a b c).toNat = (a.toNat + 512 - (b.toNat + c.toNat)) % 256 := by
  have := b.isLt; have := c.toNat_le
  rw [diff8, BitVec.toNat_ofInt]
  omega

theorem toNat_bool_not (c : Bool) : (!c).toNat = 1 - c.toNat := by
  cases c <;> rfl

theorem toInt_not (b : Byte) : (~~~b).toInt = -1 - b.toInt := by
  revert b; decide +kernel

/-- A subtraction is the addition of the complement, its carry-in complemented. -/
theorem sum8_not (a b : Byte) (c : Bool) : sum8 a (~~~b) (!c) = diff8 a b c := by
  have := b.isLt; have := c.toNat_le
  apply BitVec.eq_of_toNat_eq
  rw [toNat_diff8, toNat_sum8, BitVec.toNat_not, toNat_bool_not]
  omega

/-- The flags of that addition: H and C are the complements of the borrows, PV is the overflow of the difference. -/
theorem addF_not (a b : Byte) (c : Bool) :
    let f := addF a (~~~b) (!c)
    (!bitOf f 4) = decide (a.toNat % 16 < b.toNat % 16 + c.toNat) ∧
    bitOf f 2 = overflow8 (a.toInt - b.toInt - c.toNat) ∧ (!bitOf f 0) = decide (a.toNat < b.toNat + c.toNat) := by
  have := b.isLt; have := c.toNat_le
  simp only [addF, bitOf_fByte, BitVec.toNat_not, Nat.reducePow, Nat.reduceSub, toNat_bool_not, toInt_not, ← decide_not,
    decide_eq_decide]
  exact ⟨by omega, congrArg overflow8 (by omega), by omega⟩

theorem subWithBorrow_eq (a b : Byte) (c : Bool) : subWithBorrow a b c = ⟨diff8 a b c, subF a b c⟩ := by
  obtain ⟨hh, hpv, hc⟩ := addF_not a b c
  simp only [subWithBorrow, addWithCarry_eq, sum8_not, packF_eq_fByte, flagH, flagPV, flagC, bitAt_eq_bitOf, hh, hpv, hc,
    beq_zero, bitOf_seven]
  rfl

/-- CP: bits 5 and 3 come from the operand (R111). -/
theorem cpFlags_eq (a v : Byte) : cpFlags a v = subFrom a v false v := by
  simp only [cpFlags, subWithBorrow_eq, subF, subFrom, flagS, flagZ, flagH, flagPV, flagC, packF_eq_fByte, bitAt_eq_bitOf,
    bitOf_fByte]

/-- NEG: the borrow and the overflow of `0 - a` (R112). -/
theorem subF_zero (a : Byte) :
    cy (subF 0#8 a false) = decide (a ≠ 0#8) ∧ bitOf (subF 0#8 a false) 2 = decide (a = 0x80#8) := by
  simp only [subF, subFrom, cy, bitOf_fByte]
  revert a; decide +kernel

/-! ## INC and DEC (R116, R117) -/

theorem keepCarry_fByte (old : Byte) (fs fz f5 fh f3 fpv fn fc : Bool) :
    keepCarry old (fByte fs fz f5 fh f3 fpv fn fc) = fByte fs fz f5 fh f3 fpv fn (cy old) := by
  simp only [keepCarry, flagS, flagZ, flag5, flagH, flag3, flagPV, flagN, flagC_eq_cy, packF_eq_fByte, bitAt_eq_bitOf,
    bitOf_fByte]

theorem incOut_eq (f v : Byte) : incOut f v =
    let r := sum8 v 1#8 false
    ⟨r, fByte (decide (128 ≤ r.toNat)) (decide (r.toNat = 0)) (bitOf r 5) (decide (v.toNat % 16 = 15)) (bitOf r 3)
      (decide (v = 0x7F#8)) false (cy f)⟩ := by
  have hh : decide (16 ≤ v.toNat % 16 + (1#8).toNat % 16 + false.toNat) = decide (v.toNat % 16 = 15) := by
    revert v; decide +kernel
  have hpv : overflow8 (v.toInt + (1#8).toInt + false.toNat) = decide (v = 0x7F#8) := by revert v; decide +kernel
  simp only [incOut, addWithCarry_eq, addF, keepCarry_fByte, hh, hpv]

theorem decOut_eq (f v : Byte) : decOut f v =
    let r := diff8 v 1#8 false
    ⟨r, fByte (decide (128 ≤ r.toNat)) (decide (r.toNat = 0)) (bitOf r 5) (decide (v.toNat % 16 = 0)) (bitOf r 3)
      (decide (v = 0x80#8)) true (cy f)⟩ := by
  have hh : decide (v.toNat % 16 < (1#8).toNat % 16 + false.toNat) = decide (v.toNat % 16 = 0) := by
    revert v; decide +kernel
  have hpv : overflow8 (v.toInt - (1#8).toInt - false.toNat) = decide (v = 0x80#8) := by revert v; decide +kernel
  simp only [decOut, subWithBorrow_eq, subF, subFrom, keepCarry_fByte, hh, hpv]

/-! ## Logic, complements and carries -/

/-- AND, XOR and OR (R113 to R115). -/
theorem logicFlags_eq (r : Byte) (h : Bool) : logicFlags r h = resultF r h false := by
  simp only [logicFlags, resultF, packF_eq_fByte, bitAt_eq_bitOf, bitOf_seven, beq_zero, parity_eq_evenBits]

/-- SCF, CCF and the accumulator rotates (R120 to R125). -/
theorem accFlags_eq (old a : Byte) (h c : Bool) : accFlags old a h c = keptF old a h false c := by
  simp only [accFlags, keptF, flagS, flagZ, flagPV, packF_eq_fByte, bitAt_eq_bitOf]

/-- CPL (R119). -/
theorem cplFlags_eq (old a : Byte) : cplFlags old a = keptF old a true true (cy old) := by
  simp only [cplFlags, keptF, flagS, flagZ, flagPV, flagC_eq_cy, packF_eq_fByte, bitAt_eq_bitOf]

/-! ## DAA (R118) -/

theorem toNat_and_low (a : Byte) : (a &&& 0x0F#8).toNat = a.toNat % 16 := by
  rw [BitVec.toNat_and]
  exact Nat.and_two_pow_sub_one_eq_mod _ 4

theorem sub_eq_ofInt (a b : Byte) : a - b = BitVec.ofInt 8 ((a.toNat : Int) - b.toNat) := by
  have := b.isLt
  apply BitVec.eq_of_toNat_eq
  rw [BitVec.toNat_ofInt, BitVec.toNat_sub]
  omega

/-- The two parts of the correction have no bit in common, so their union is their sum. -/
theorem toNat_daaCorr (a f : Byte) : (daaCorr a f).toNat =
    (if bitOf f 4 || decide (9 < a.toNat % 16) then 0x06 else 0) + (if cy f || decide (0x99 < a.toNat) then 0x60 else 0) := by
  rw [daaCorr, toNat_and_low, flagH, bitAt_eq_bitOf, flagC_eq_cy]
  split <;> split <;> rfl

theorem daa_eq (a f : Byte) : daa a f =
    let n : Nat := a.toNat
    let h := bitOf f 4
    let c := cy f || decide (0x99 < n)
    let corr : Nat := (if h || decide (9 < n % 16) then 0x06 else 0) + (if c then 0x60 else 0)
    let r : Byte := if bitOf f 1 then BitVec.ofInt 8 ((n : Int) - corr) else BitVec.ofNat 8 (n + corr)
    let h' := if bitOf f 1 then h && decide (n % 16 < 6) else decide (9 < n % 16)
    ⟨r, fByte (decide (128 ≤ r.toNat)) (decide (r.toNat = 0)) (bitOf r 5) h' (bitOf r 3) (evenBits r) (bitOf f 1) c⟩ := by
  simp only [daa, BitVec.add_def, sub_eq_ofInt, toNat_daaCorr, toNat_and_low, flagH, flagN, flagC_eq_cy, packF_eq_fByte,
    bitAt_eq_bitOf, bitOf_seven, beq_zero, parity_eq_evenBits]

end Sys2Proof.Flags
end

section
/-! PROOFS. The operand forms of the model in the words of the rules: registers, the halves of an index register and the
effective address (R68, R80, R89), and a target that is read, operated on and written (R106, R126). -/

namespace Sys2Proof.Operands

open Sys2Proof.Machine Sys2Proof.Claims Sys2Proof.HostActs Sys2Proof.Encoding

/-! ## Registers -/

theorem hiByte_eq_high (w : Word) : hiByte w = high w := by
  have := w.isLt
  apply BitVec.eq_of_toNat_eq
  rw [hiByte_toNat, high, BitVec.toNat_ofNat]
  omega

theorem loByte_eq_low (w : Word) : loByte w = low w := by
  apply BitVec.eq_of_toNat_eq
  rw [loByte_toNat, low, BitVec.toNat_ofNat]
  omega

theorem getR_eq_get (s : State) (r : Reg8) : s.getR r = get s.regs r := by
  cases r <;> rfl

theorem getHalf_eq_xyHalf (s : State) (x : Idx) (h : Half) : s.getHalf x h = xyHalf s x h := by
  cases x <;> cases h <;> simp only [State.getHalf, xyHalf, hiByte_eq_high, loByte_eq_low] <;> rfl

theorem setHalf_eq_putHalf (s : State) (x : Idx) (h : Half) (v : Byte) : s.setHalf x h v = putHalf s x h v := by
  cases x <;> cases h <;> simp only [State.setHalf, putHalf, hiByte_eq_high, loByte_eq_low, mkWord_eq_wordOf] <;> rfl

/-! ## The effective address (R80) -/

theorem selectXy_eq_atXy (s : State) (x : Idx) (d : Byte) : s.selectXy x d = atXy s x d := by
  cases x <;> rfl

theorem selectHl_ea (s : State) : s.selectHl.ea = hl s := mkWord_eq_wordOf _ _

/-- A displacement is added as a relative jump's is. -/
theorem selectXy_ea (s : State) (x : Idx) (d : Byte) : (s.selectXy x d).ea = ea s x d := by
  cases x with
  | ix => exact Jumping.pc_add_sext { s with pc := s.ix } d
  | iy => exact Jumping.pc_add_sext { s with pc := s.iy } d

/-! ## Read, operate and write -/

theorem rmwR_eq (s : State) (g : Byte → Byte → AluOut) (r : Reg8) :
    s.rmwR g r =
      let o := g s.regs.f (get s.regs r)
      { s with regs := put { s.regs with f := o.f } r o.r } := by
  cases r <;> rfl

theorem rmwHalf_eq (s : State) (g : Byte → Byte → AluOut) (x : Idx) (h : Half) :
    s.rmwHalf g x h =
      let o := g s.regs.f (xyHalf s x h)
      { putHalf s x h o.r with regs := { s.regs with f := o.f } } := by
  simp only [State.rmwHalf, getHalf_eq_xyHalf, setHalf_eq_putHalf]
  cases x <;> cases h <;> rfl

theorem memOp_rmwM (s : State) (g : Byte → Byte → AluOut) (hwf : Memory.wf s.mem = true) :
    MemOp s s.ea (fun v => (g s.regs.f v).r) (fun v => { s.regs with f := (g s.regs.f v).f }) (.next (s.rmwM g)) :=
  ⟨_, Bus.stored_write8 s s.ea _ hwf, rfl⟩

/-! ## Decoding and recognition -/

theorem decode_of_encodes {i : Instr} {bytes : List Byte} (h : Encodes i bytes) : decode bytes = .ok i := by
  obtain ⟨hwf, rfl⟩ := h
  exact roundTrip i hwf

/-- A form that executes with the undocumented ones only (R9, R97). -/
theorem ifRecognized_eq_orUnknown {i : Instr} {s : State} {t : OpTable} {o : Byte} (op : State → State)
    (hok : i.recognized s.params = undoc s) (hevent : unknownEvent i = ⟨t, o⟩) :
    Host.Outcome.next (s.ifRecognized i op) = orUnknown (undoc s) s t o (op s) := by
  rw [State.ifRecognized, hok, orUnknown, State.raiseUnknown, hevent]
  split <;> rfl

end Sys2Proof.Operands
end

section
/-! PROOFS. O13 to O19 and O21: the 8-bit operations. The eight operations on A differ in what they leave in A and F
(`aluRegs`), not in how they take their operand, so that one lemma on the five source forms (`exec_source`) serves all of
them. INC and DEC share the four targets in the same way (`gives_incDec`). -/

namespace Sys2Proof.Alu8

open Sys2Proof.Machine Sys2Proof.Claims Sys2Proof.Flags Sys2Proof.Operands Sys2Proof.Encoding

/-! ## The eight operations on A and a byte -/

/-- What an operation leaves in the main registers (R107 to R115). -/
def aluRegs (op : AluOp) (g : Regs) (v : Byte) : Regs :=
  match op with
  | .add => { g with a := sum8 g.a v false, f := addF g.a v false }
  | .adc => { g with a := sum8 g.a v (cy g.f), f := addF g.a v (cy g.f) }
  | .sub => { g with a := diff8 g.a v false, f := subF g.a v false }
  | .sbc => { g with a := diff8 g.a v (cy g.f), f := subF g.a v (cy g.f) }
  | .and => { g with a := g.a &&& v, f := resultF (g.a &&& v) true false }
  | .xor => { g with a := g.a ^^^ v, f := resultF (g.a ^^^ v) false false }
  | .or => { g with a := g.a ||| v, f := resultF (g.a ||| v) false false }
  | .cp => { g with f := subFrom g.a v false v }

/-- The model's operation. -/
def alu : AluOp → State → Byte → State
  | .add => State.addA | .adc => State.adcA | .sub => State.subA | .sbc => State.sbcA
  | .and => State.andA | .xor => State.xorA | .or => State.orA | .cp => State.cpA

theorem alu_eq (op : AluOp) (s : State) (v : Byte) : alu op s v = { s with regs := aluRegs op s.regs v } := by
  cases op with
  | add => simp only [alu, State.addA, addWithCarry_eq]; rfl
  | adc => simp only [alu, State.adcA, addWithCarry_eq, flagC_eq_cy]; rfl
  | sub => simp only [alu, State.subA, subWithBorrow_eq]; rfl
  | sbc => simp only [alu, State.sbcA, subWithBorrow_eq, flagC_eq_cy]; rfl
  | and => simp only [alu, State.andA, State.putLogic, logicFlags_eq]; rfl
  | xor => simp only [alu, State.xorA, State.putLogic, logicFlags_eq]; rfl
  | or => simp only [alu, State.orA, State.putLogic, logicFlags_eq]; rfl
  | cp => simp only [alu, State.cpA, cpFlags_eq]; rfl

/-- A memory operand is read once, then operated on. -/
theorem withM_alu (op : AluOp) (s : State) : s.withM (alu op) =
    { s with regs := aluRegs op s.regs (s.peek s.ea), bus := .memRead s.ea (s.peek s.ea) :: s.bus } :=
  alu_eq op s.noteM s.m

/-! ## The five source forms (R105) -/

theorem encodes_source (src : Src) (op : AluOp) : Encodes (src.instr op) (src.bytes op) := by
  cases src with
  | reg r => cases op <;> cases r <;> exact ⟨rfl, rfl⟩
  | mHl => cases op <;> exact ⟨rfl, rfl⟩
  | imm n => cases op <;> exact ⟨rfl, rfl⟩
  | mXy x d => cases op <;> cases x <;> exact ⟨rfl, rfl⟩
  | half x h => cases op <;> cases x <;> cases h <;> exact ⟨rfl, rfl⟩

theorem decode_source (src : Src) (op : AluOp) : decode (src.bytes op) = .ok (src.instr op) :=
  decode_of_encodes (encodes_source src op)

theorem exec_source (src : Src) (op : AluOp) (s : State) :
    exec (src.instr op) s = src.answer op s (aluRegs op s.regs) := by
  cases src with
  | reg r =>
    have hexec : exec ((Src.reg r).instr op) s = .next (alu op s (s.getR r)) := by cases op <;> rfl
    rw [hexec, alu_eq, getR_eq_get]
    rfl
  | mHl =>
    have hexec : exec (Src.mHl.instr op) s = .next (s.selectHl.withM (alu op)) := by cases op <;> rfl
    rw [hexec, withM_alu, selectHl_ea]
    rfl
  | imm n =>
    have hexec : exec ((Src.imm n).instr op) s = .next (alu op s n) := by cases op <;> rfl
    rw [hexec, alu_eq]
    rfl
  | mXy x d =>
    have hexec : exec ((Src.mXy x d).instr op) s = .next ((s.selectXy x d).withM (alu op)) := by cases op <;> rfl
    rw [hexec, withM_alu, selectXy_ea, selectXy_eq_atXy]
    rfl
  | half x h =>
    have hexec : exec ((Src.half x h).instr op) s =
        .next (s.ifRecognized ((Src.half x h).instr op) fun t => alu op t (t.getHalf x h)) := by cases op <;> rfl
    have hok : ((Src.half x h).instr op).recognized s.params = undoc s := by cases op <;> rfl
    have hevent : unknownEvent ((Src.half x h).instr op) = ⟨xyTable x, (Src.half x h).opcode op⟩ := by
      cases op <;> cases x <;> cases h <;> rfl
    rw [hexec, ifRecognized_eq_orUnknown _ hok hevent, alu_eq, getHalf_eq_xyHalf]
    rfl

/-- Settles O13: the additions, in every source form. -/
theorem addAndAdcSetSumAndFlags : Obligations.AddAndAdcSetSumAndFlags := fun src s =>
  ⟨⟨decode_source src .add, exec_source src .add s⟩, decode_source src .adc, exec_source src .adc s⟩

/-- Settles O14: the subtractions, in every source form. -/
theorem subAndSbcSetDifferenceAndFlags : Obligations.SubAndSbcSetDifferenceAndFlags := fun src s =>
  ⟨⟨decode_source src .sub, exec_source src .sub s⟩, decode_source src .sbc, exec_source src .sbc s⟩

/-- Settles O15: the comparison, in every source form. -/
theorem compareSetsFlagsOnly : Obligations.CompareSetsFlagsOnly := fun src s =>
  ⟨decode_source src .cp, exec_source src .cp s⟩

/-- Settles O16: the logic operations, in every source form. -/
theorem logicOperations : Obligations.LogicOperations := fun src s =>
  ⟨⟨decode_source src .and, exec_source src .and s⟩, ⟨decode_source src .xor, exec_source src .xor s⟩,
    decode_source src .or, exec_source src .or s⟩

/-! ## NEG (R112) -/

theorem negA_eq (s : State) :
    s.negA = { s with regs := { s.regs with a := diff8 0#8 s.regs.a false, f := subF 0#8 s.regs.a false } } := by
  rw [State.negA, subWithBorrow_eq]
  rfl

theorem encodes_negMirror : ∀ y : BitVec 3, y ≠ 0 →
    Encodes (.negMirror y) [0xED#8, BitVec.ofNat 8 (0x44 + 8 * y.toNat)] := by
  decide

theorem unknownEvent_negMirror : ∀ y : BitVec 3,
    unknownEvent (.negMirror y) = ⟨.ed, BitVec.ofNat 8 (0x44 + 8 * y.toNat)⟩ := by
  decide

/-- Settles O17: NEG is a subtraction from 0, and so is each mirror where it is recognized. -/
theorem negateAccumulator : Obligations.NegateAccumulator := by
  intro s
  obtain ⟨hc, hpv⟩ := subF_zero s.regs.a
  refine ⟨rfl, fun y hy => decode_of_encodes (encodes_negMirror y hy), ⟨congrArg _ (negA_eq s), fun y => ?_⟩, hc, hpv⟩
  have hexec : exec (.negMirror y) s = .next (s.ifRecognized (.negMirror y) State.negA) := rfl
  rw [hexec, ifRecognized_eq_orUnknown _ rfl (unknownEvent_negMirror y), negA_eq]

/-! ## INC and DEC (R106, R116, R117) -/

theorem encodes_incDec (tgt : Tgt) : Encodes tgt.inc (tgt.bytes 4) ∧ Encodes tgt.dec (tgt.bytes 5) := by
  cases tgt with
  | reg r => cases r <;> exact ⟨⟨rfl, rfl⟩, rfl, rfl⟩
  | mHl => exact ⟨⟨rfl, rfl⟩, rfl, rfl⟩
  | mXy x d => cases x <;> exact ⟨⟨rfl, rfl⟩, rfl, rfl⟩
  | half x h => cases x <;> cases h <;> exact ⟨⟨rfl, rfl⟩, rfl, rfl⟩

theorem unknownEvent_incDec (x : Idx) (h : Half) :
    unknownEvent (.incXyHalf x h) = ⟨xyTable x, (Tgt.half x h).opcode 4⟩ ∧
    unknownEvent (.decXyHalf x h) = ⟨xyTable x, (Tgt.half x h).opcode 5⟩ := by
  cases x <;> cases h <;> exact ⟨rfl, rfl⟩

/-- The model's operation on a target; `i` is the instruction, which may be unrecognized where the target is a half. -/
def incDec (g : Byte → Byte → AluOut) (i : Instr) (s : State) : Tgt → State
  | .reg r => s.rmwR g r
  | .mHl => s.selectHl.rmwM g
  | .mXy x d => (s.selectXy x d).rmwM g
  | .half x h => s.ifRecognized i fun t => t.rmwHalf g x h

theorem exec_inc (tgt : Tgt) (s : State) : exec tgt.inc s = .next (incDec incOut tgt.inc s tgt) := by
  cases tgt <;> rfl

theorem exec_dec (tgt : Tgt) (s : State) : exec tgt.dec s = .next (incDec decOut tgt.dec s tgt) := by
  cases tgt <;> rfl

theorem gives_incDec {tgt : Tgt} {z : Nat} {s : State} {i : Instr} (g : Byte → Byte → AluOut)
    (hwf : Memory.wf s.mem = true)
    (hhalf : ∀ x h, tgt = .half x h → i.recognized s.params = undoc s ∧ unknownEvent i = ⟨xyTable x, tgt.opcode z⟩) :
    tgt.Gives z s (fun v => (g s.regs.f v).r) (fun v => (g s.regs.f v).f) (.next (incDec g i s tgt)) := by
  cases tgt with
  | reg r => exact congrArg _ (rmwR_eq s g r)
  | mHl =>
    have h := memOp_rmwM s.selectHl g hwf
    rwa [selectHl_ea] at h
  | mXy x d =>
    have h := memOp_rmwM (s.selectXy x d) g hwf
    rwa [selectXy_ea, selectXy_eq_atXy] at h
  | half x h =>
    obtain ⟨hok, hevent⟩ := hhalf x h rfl
    have ht := ifRecognized_eq_orUnknown (fun t => t.rmwHalf g x h) hok hevent
    rwa [rmwHalf_eq] at ht

/-- Settles O18: INC and DEC of each target, with the flags of adding and of subtracting 1. -/
theorem incrementAndDecrementByte : Obligations.IncrementAndDecrementByte := by
  intro tgt s hwf
  obtain ⟨hinc, hdec⟩ := encodes_incDec tgt
  refine ⟨⟨decode_of_encodes hinc, ?_⟩, decode_of_encodes hdec, ?_⟩
  · have h := gives_incDec (tgt := tgt) (z := 4) (i := tgt.inc) incOut hwf
      (by rintro x h rfl; exact ⟨rfl, (unknownEvent_incDec x h).1⟩)
    simpa only [incOut_eq, exec_inc] using h
  · have h := gives_incDec (tgt := tgt) (z := 5) (i := tgt.dec) decOut hwf
      (by rintro x h rfl; exact ⟨rfl, (unknownEvent_incDec x h).2⟩)
    simpa only [decOut_eq, exec_dec] using h

/-! ## DAA, CPL, SCF and CCF (R118 to R121) -/

/-- Settles O19: DAA in numbers. -/
theorem decimalAdjust : Obligations.DecimalAdjust := by
  refine ⟨rfl, fun s => ?_⟩
  have hexec : exec .daa s = .next (s.putAlu (daa s.regs.a s.regs.f)) := rfl
  rw [hexec, daa_eq]
  rfl

theorem not_eq_ofNat_sub (a : Byte) : ~~~a = BitVec.ofNat 8 (255 - a.toNat) :=
  BitVec.eq_of_toNat_eq (by rw [BitVec.toNat_not, BitVec.toNat_ofNat]; omega)

/-- Settles O21, instruction by instruction. -/
theorem accumulatorFlagOperations : Obligations.AccumulatorFlagOperations := by
  refine ⟨rfl, rfl, rfl, fun s => ⟨?cpl, ?scf, ?ccf⟩⟩
  case cpl =>
    have hexec : exec .cpl s = .next ((s.setA (~~~s.regs.a)).setF (cplFlags s.regs.f (~~~s.regs.a))) := rfl
    rw [hexec, cplFlags_eq, not_eq_ofNat_sub]
    rfl
  case scf =>
    have hexec : exec .scf s = .next (s.setF (accFlags s.regs.f s.regs.a false true)) := rfl
    rw [hexec, accFlags_eq]
    rfl
  case ccf =>
    have hexec : exec .ccf s = .next (s.setF (accFlags s.regs.f s.regs.a (flagC s.regs.f) (!flagC s.regs.f))) := rfl
    rw [hexec, accFlags_eq, flagC_eq_cy]
    rfl

end Sys2Proof.Alu8
end

section
/-! PROOFS. O20: decimal arithmetic. DAA adds 6 to the digits that carry in decimal, and subtracts 6 from those that borrow:
what it finds in H, C and the digits of the binary result says which ones these are. -/

namespace Sys2Proof.Decimal

open Sys2Proof.Machine Sys2Proof.Claims Sys2Proof.Flags Sys2Proof.Alu8

theorem isBcd_iff {v : Byte} : isBcd v = true ↔ v.toNat / 16 < 10 ∧ v.toNat % 16 < 10 := by
  simp [isBcd]

/-- The byte of a number's last two digits. -/
theorem bcd_of_digits {v : Byte} {n : Nat} (h : v.toNat = 16 * (n / 10 % 10) + n % 10) :
    isBcd v = true ∧ bcd v = n % 100 := by
  rw [isBcd_iff, bcd]
  omega

/-- DAA after an addition; `q` is the sum of the low digits. -/
theorem daa_sum {x y : Byte} (hx : isBcd x = true) (hy : isBcd y = true) {c : Bool} {n : Nat}
    (hn : bcd x + bcd y + c.toNat = n) :
    let o := daa (sum8 x y c) (addF x y c)
    o.r.toNat = 16 * (n / 10 % 10) + n % 10 ∧ cy o.f = decide (100 ≤ n) := by
  obtain ⟨hxh, hxl⟩ := isBcd_iff.1 hx
  obtain ⟨hyh, hyl⟩ := isBcd_iff.1 hy
  have hc := c.toNat_le
  rw [bcd, bcd] at hn
  obtain ⟨q, hq⟩ : ∃ q, q = x.toNat % 16 + y.toNat % 16 + c.toNat := ⟨_, rfl⟩
  have htens : n / 10 = x.toNat / 16 + y.toNat / 16 + q / 10 := by omega
  have hunits : n % 10 = q % 10 := by omega
  have hlow : (decide (16 ≤ x.toNat % 16 + y.toNat % 16 + c.toNat) || decide (9 < (sum8 x y c).toNat % 16)) =
      decide (10 ≤ q) := by
    rw [toNat_sum8, ← Bool.decide_or, decide_eq_decide]
    omega
  have hhigh : (decide (256 ≤ x.toNat + y.toNat + c.toNat) || decide (0x99 < (sum8 x y c).toNat)) =
      decide (100 ≤ n) := by
    rw [toNat_sum8, ← Bool.decide_or, decide_eq_decide]
    omega
  have hcorr : (if 10 ≤ q then 0x06 else 0) + (if 100 ≤ n then 0x60 else 0) = 6 * (q / 10) + 96 * (n / 10 / 10) := by
    split <;> split <;> omega
  simp only [daa_eq, addF, cy, bitOf_fByte, hlow, hhigh, and_true, decide_eq_true_eq, Bool.false_eq_true, if_false]
  rw [BitVec.toNat_ofNat, toNat_sum8, Nat.mod_add_mod, hcorr]
  omega

/-- DAA after a subtraction; `q` is the difference of the low digits and `n` that of the bytes, with a ten and two hundreds
borrowed. -/
theorem daa_diff {x y : Byte} (hx : isBcd x = true) (hy : isBcd y = true) {c : Bool} {n : Nat}
    (hn : bcd x + 200 - bcd y - c.toNat = n) :
    let o := daa (diff8 x y c) (subF x y c)
    o.r.toNat = 16 * (n / 10 % 10) + n % 10 ∧ cy o.f = decide (n < 200) := by
  obtain ⟨hxh, hxl⟩ := isBcd_iff.1 hx
  obtain ⟨hyh, hyl⟩ := isBcd_iff.1 hy
  have hc := c.toNat_le
  rw [bcd, bcd] at hn
  obtain ⟨q, hq⟩ : ∃ q, q + (y.toNat % 16 + c.toNat) = x.toNat % 16 + 10 := ⟨_, Nat.sub_add_cancel (by omega)⟩
  have htens : n / 10 + y.toNat / 16 = 19 + x.toNat / 16 + q / 10 := by omega
  have hunits : n % 10 = q % 10 := by omega
  have hborrow : x.toNat < y.toNat + c.toNat ↔ n < 200 := by omega
  have hdiff : (diff8 x y c).toNat + (y.toNat + c.toNat) = x.toNat + if n < 200 then 256 else 0 := by
    rw [toNat_diff8]
    split <;> omega
  have hlow : (decide (x.toNat % 16 < y.toNat % 16 + c.toNat) || decide (9 < (diff8 x y c).toNat % 16)) =
      decide (q < 10) := by
    rw [← Bool.decide_or, decide_eq_decide]
    split at hdiff <;> omega
  have hhigh : (decide (x.toNat < y.toNat + c.toNat) || decide (0x99 < (diff8 x y c).toNat)) = decide (n < 200) := by
    rw [← Bool.decide_or, decide_eq_decide]
    split at hdiff <;> omega
  have hcorr : (diff8 x y c).toNat =
      16 * (n / 10 % 10) + n % 10 + ((if q < 10 then 0x06 else 0) + (if n < 200 then 0x60 else 0)) := by
    split at hdiff <;> split <;> omega
  simp only [daa_eq, subF, subFrom, cy, bitOf_fByte, hlow, hhigh, and_true, decide_eq_true_eq, if_true]
  rw [hcorr, BitVec.toNat_ofInt]
  omega

/-- An operation on an immediate byte, then DAA. -/
theorem andThen_daa (op : AluOp) (y : Byte) (s : State) :
    andThen (exec ((Src.imm y).instr op) s) (exec .daa) =
      let g := aluRegs op s.regs y
      .next ({ s with regs := g }.putAlu (daa g.a g.f)) := by
  rw [exec_source]
  rfl

/-- Settles O20, by the digits of the sum and of the difference. -/
theorem decimalArithmetic : Obligations.DecimalArithmetic := by
  intro s x y hx hy t c
  obtain ⟨hsum, hcarry⟩ := daa_sum hx hy (c := cy s.regs.f) rfl
  obtain ⟨hdiff, hborrow⟩ := daa_diff hx hy (c := cy s.regs.f) rfl
  obtain ⟨hsumBcd, hsumValue⟩ := bcd_of_digits hsum
  obtain ⟨hdiffBcd, hdiffValue⟩ := bcd_of_digits hdiff
  refine ⟨⟨_, andThen_daa .adc y t, hsumBcd, hsumValue, hcarry⟩, _, andThen_daa .sbc y t, hdiffBcd, hdiffValue, ?_⟩
  refine hborrow.trans (decide_eq_decide.2 ?_)
  omega

end Sys2Proof.Decimal
end

section
/-! PROOFS. The shifts, the single bits and the digits of a byte as numbers (R128 to R140). The model cuts a byte into bit
fields and joins them again; a joined field is a sum (`append_eq_ofNat`), and a single bit is added or subtracted where it
is not, or is, there (`or_eq_add`, `and_not_eq_sub`). -/

namespace Sys2Proof.Fields

open Sys2Proof.Machine Sys2Proof.Claims Sys2Proof.Flags Sys2Proof.Jumping

/-- Two fields side by side. -/
theorem append_eq_ofNat {m n : Nat} (x : BitVec m) (y : BitVec n) :
    x ++ y = BitVec.ofNat (m + n) (2 ^ n * x.toNat + y.toNat) := by
  have h := (x ++ y).isLt
  apply BitVec.eq_of_toNat_eq
  rw [BitVec.toNat_append, ← Nat.shiftLeft_add_eq_or_of_lt y.isLt, Nat.shiftLeft_eq, Nat.mul_comm] at h ⊢
  rw [BitVec.toNat_ofNat, Nat.mod_eq_of_lt h]

theorem opXYZ_eq_ofNat (x : BitVec 2) (y z : BitVec 3) :
    opXYZ x y z = BitVec.ofNat 8 (8 * (8 * x.toNat + y.toNat) + z.toNat) := by
  have hxy : (x ++ y).toNat = 8 * x.toNat + y.toNat := by
    have h := congrArg BitVec.toNat (append_eq_ofNat x y)
    rw [BitVec.toNat_ofNat] at h
    omega
  exact (append_eq_ofNat (x ++ y) z).trans (congrArg (fun n => BitVec.ofNat 8 (8 * n + z.toNat)) hxy)

/-! ## Shifts (R127 to R135) -/

theorem bitOf_zero (v : Byte) : bitOf v 0 = decide (v.toNat % 2 = 1) := by
  rw [bitOf, Nat.pow_zero, Nat.div_one]
  rfl

theorem shiftLeft_eq (v : Byte) (c : Bool) :
    shiftLeft v c = ⟨BitVec.ofNat 8 ((2 * v.toNat + c.toNat) % 256), decide (128 ≤ v.toNat)⟩ := by
  have := c.toNat_le
  rw [shiftLeft, append_eq_ofNat, BitVec.extractLsb'_toNat, BitVec.toNat_ofBool, bitAt_eq_bitOf, bitOf_seven]
  congr 2
  omega

theorem shiftRight_eq (v : Byte) (c : Bool) :
    shiftRight v c = ⟨BitVec.ofNat 8 (v.toNat / 2 + 128 * c.toNat), decide (v.toNat % 2 = 1)⟩ := by
  have := v.isLt
  rw [shiftRight, append_eq_ofNat, BitVec.extractLsb'_toNat, BitVec.toNat_ofBool, bitAt_eq_bitOf, bitOf_zero]
  congr 2
  omega

theorem toNat_bitAt_seven (v : Byte) : (bitAt v 7).toNat = v.toNat / 128 := by
  rw [bitAt_eq_bitOf, bitOf_seven]
  by_cases h : 128 ≤ v.toNat
  · rw [decide_eq_true h, Bool.toNat_true]
    omega
  · rw [decide_eq_false h, Bool.toNat_false]
    omega

theorem toNat_bitAt_zero (v : Byte) : (bitAt v 0).toNat = v.toNat % 2 := by
  rw [bitAt_eq_bitOf, bitOf_zero]
  rcases Nat.mod_two_eq_zero_or_one v.toNat with h | h <;> rw [h] <;> rfl

/-- The model's shift, `c` being the old carry. -/
def shifted (sh : Shift) (c : Bool) (v : Byte) : ShiftOut :=
  match sh with
  | .rlc => rlc v | .rrc => rrc v | .rl => rl v c | .rr => rr v c
  | .sla => sla v | .sra => sra v | .sll => sll v | .srl => srl v

theorem shifted_eq (sh : Shift) (c : Bool) (v : Byte) : shifted sh c v = ⟨sh.result c v, sh.out v⟩ := by
  cases sh with
  | rlc => simp only [shifted, rlc, shiftLeft_eq, toNat_bitAt_seven, Shift.result, Shift.out]
  | rrc => simp only [shifted, rrc, shiftRight_eq, toNat_bitAt_zero, Shift.result, Shift.out]
  | rl => exact shiftLeft_eq v c
  | rr => exact shiftRight_eq v c
  | sla => exact shiftLeft_eq v false
  | sra => simp only [shifted, sra, shiftRight_eq, toNat_bitAt_seven, Shift.result, Shift.out]
  | sll => exact shiftLeft_eq v true
  | srl => exact shiftRight_eq v false

theorem shiftFlags_eq (r : Byte) (c : Bool) : shiftFlags r c = resultF r false c := by
  simp only [shiftFlags, resultF, packF_eq_fByte, bitAt_eq_bitOf, bitOf_seven, beq_zero, parity_eq_evenBits]

/-! ## Single bits (R136 to R138) -/

theorem and_bit (v : Byte) (k : Nat) : v &&& 1#8 <<< k = if bitOf v k then 1#8 <<< k else 0#8 := by
  rw [← BitVec.twoPow_eq, BitVec.and_twoPow, ← bitAt_eq_bitOf, bitAt]

theorem and_not_add_and (v m : Byte) : (v &&& ~~~m) + (v &&& m) = v := by
  rw [BitVec.add_eq_or_of_and_eq_zero]
  · ext; grind
  · ext; grind

theorem and_not_eq_sub (v m : Byte) : v &&& ~~~m = v - (v &&& m) :=
  BitVec.eq_sub_iff_add_eq.2 (and_not_add_and v m)

theorem or_eq_add (v m : Byte) : v ||| m = v - (v &&& m) + m := by
  rw [← and_not_eq_sub, BitVec.add_eq_or_of_and_eq_zero]
  · ext; grind
  · ext; grind

theorem bit_eq_ofNat : ∀ b : BitVec 3, 1#8 <<< b.toNat = BitVec.ofNat 8 (2 ^ b.toNat) := by
  decide

theorem two_pow_le_of_bitOf {v : Byte} {k : Nat} (h : bitOf v k = true) : 2 ^ k ≤ v.toNat := by
  rw [bitOf, beq_iff_eq] at h
  exact (Nat.div_ne_zero_iff.1 (by omega)).2

/-- Clearing a bit that is set subtracts it (R137). -/
theorem resOut_eq (b : BitVec 3) (f v : Byte) : resOut b f v = ⟨clearBit b v, f⟩ := by
  rw [resOut, and_not_eq_sub, and_bit, clearBit, bit_eq_ofNat]
  congr 1
  split
  · next h =>
    have hle := two_pow_le_of_bitOf h
    have hlt := Nat.lt_of_le_of_lt hle v.isLt
    rw [← BitVec.ofNat_sub_ofNat_of_le _ _ hlt hle, BitVec.ofNat_toNat, BitVec.setWidth_eq]
  · exact BitVec.sub_zero v

/-- Setting a bit that is clear adds it (R138). -/
theorem setOut_eq (b : BitVec 3) (f v : Byte) : setOut b f v = ⟨raiseBit b v, f⟩ := by
  rw [setOut, or_eq_add, and_bit, raiseBit, bit_eq_ofNat]
  congr 1
  split
  · exact BitVec.sub_add_cancel v _
  · rw [BitVec.ofNat_add, BitVec.ofNat_toNat, BitVec.setWidth_eq]
    exact congrArg (· + _) (BitVec.sub_zero v)

theorem bitFlags_eq (old v src : Byte) (b : BitVec 3) : bitFlags old v src b.toNat = bitF old v src b := by
  simp only [bitFlags, bitF, packF_eq_fByte, bitAt_eq_bitOf, flagC_eq_cy]

/-! ## Digits (R139, R140) -/

theorem rldOut_eq (a m : Byte) : rldOut a m =
    ⟨BitVec.ofNat 8 (a.toNat / 16 * 16 + m.toNat / 16), BitVec.ofNat 8 (m.toNat % 16 * 16 + a.toNat % 16)⟩ := by
  have := a.isLt; have := m.isLt
  simp only [rldOut, append_eq_ofNat, BitVec.extractLsb'_toNat]
  congr 2 <;> omega

theorem rrdOut_eq (a m : Byte) : rrdOut a m =
    ⟨BitVec.ofNat 8 (a.toNat / 16 * 16 + m.toNat % 16), BitVec.ofNat 8 (a.toNat % 16 * 16 + m.toNat / 16)⟩ := by
  have := a.isLt; have := m.isLt
  simp only [rrdOut, append_eq_ofNat, BitVec.extractLsb'_toNat]
  congr 2 <;> omega

theorem inFlags_eq (old v : Byte) : inFlags old v = resultF v false (cy old) := by
  rw [inFlags, shiftFlags_eq, flagC_eq_cy]

end Sys2Proof.Fields
end

section
/-! PROOFS. O22 to O26: rotates, shifts and bit operations. The forms of the CB table differ in their operand, not in how the
operation is applied to it: what a form needs to say of itself is `CbForm`, and one lemma (`gives_cbOp`) serves every shift,
RES and SET. -/

namespace Sys2Proof.RotateBit

open Sys2Proof.Machine Sys2Proof.Claims Sys2Proof.Flags Sys2Proof.Operands Sys2Proof.Encoding Sys2Proof.Fields

/-! ## The accumulator rotates (R122 to R125) -/

theorem rotateA_shifted (s : State) (sh : Shift) (c : Bool) :
    let r := sh.result c s.regs.a
    s.rotateA (shifted sh c s.regs.a) =
      { s with regs := { s.regs with a := r, f := keptF s.regs.f r false false (sh.out s.regs.a) } } := by
  rw [State.rotateA, shifted_eq, accFlags_eq]
  rfl

/-- Settles O22: each of the four is a shift of A. -/
theorem accumulatorRotates : Obligations.AccumulatorRotates := by
  refine ⟨rfl, rfl, rfl, rfl, fun s => ?_⟩
  rw [← flagC_eq_cy]
  exact ⟨congrArg _ (rotateA_shifted s .rlc _), congrArg _ (rotateA_shifted s .rrc _),
    congrArg _ (rotateA_shifted s .rl _), congrArg _ (rotateA_shifted s .rr _)⟩

/-! ## The forms of the CB table (R92, R96, R126) -/

/-- The operand's field of the opcode byte (R68). -/
def operandField : CbTgt → BitVec 3
  | .reg r | .mXyR _ _ r => r.code
  | .mHl | .mXy _ _ => 6

/-- The bytes of a form around its opcode byte. -/
def formBytes (tgt : CbTgt) (o : Byte) : List Byte :=
  match tgt with
  | .reg _ | .mHl => [0xCB#8, o]
  | .mXy x d | .mXyR x d _ => xyCbBytes x d o

/-- The forms that every value of the parameters recognizes (R97). -/
def documented : CbTgt → Bool
  | .mXyR _ _ _ => false
  | _ => true

theorem opcode_eq_opXYZ (tgt : CbTgt) (x : BitVec 2) (y : BitVec 3) :
    tgt.opcode (8 * x.toNat + y.toNat) = opXYZ x y (operandField tgt) := by
  rw [opXYZ_eq_ofNat]
  cases tgt with
  | reg r => cases r <;> rfl
  | mHl => rfl
  | mXy i d => rfl
  | mXyR i d r => cases r <;> rfl

theorem bytes_eq_formBytes (tgt : CbTgt) (k : Nat) : tgt.bytes k = formBytes tgt (tgt.opcode k) := by
  cases tgt with
  | reg r => rfl
  | mHl => rfl
  | mXy x d => cases x <;> rfl
  | mXyR x d r => cases x <;> rfl

/-- The event of an instruction is read off its bytes (R225). -/
theorem unknownEvent_of_encode {i : Instr} {x : Idx} {d o : Byte} (henc : encode i = xyCbBytes x d o)
    (hprefix : i.isPrefix = false) : unknownEvent i = ⟨xyCbTable x, o⟩ := by
  have htable : i.opTable = xyCbTable x := by
    rw [Instr.opTable, Instr.firstByte, henc, hprefix]
    cases x <;> rfl
  rw [unknownEvent, Instr.opcode, htable, henc]
  cases x <;> rfl

/-- `i` is the instruction with the upper five bits `k` and the operand `tgt`: its bytes, where it is recognized, and the
event it raises where it is not. -/
structure CbForm (tgt : CbTgt) (k : Nat) (i : Instr) : Prop where
  encodes : Encodes i (tgt.bytes k)
  recognized : ∀ p : Params, i.recognized p = (documented tgt || p.undocOpcodes == .z80)
  event : ∀ x d r, tgt = .mXyR x d r → unknownEvent i = ⟨xyCbTable x, tgt.opcode k⟩

theorem CbForm.of_encode {tgt : CbTgt} {i : Instr} {x : BitVec 2} {y : BitVec 3} (hwf : i.wf = true)
    (henc : encode i = formBytes tgt (opXYZ x y (operandField tgt))) (hprefix : i.isPrefix = false)
    (hrec : ∀ p : Params, i.recognized p = (documented tgt || p.undocOpcodes == .z80)) :
    CbForm tgt (8 * x.toNat + y.toNat) i where
  encodes := ⟨hwf, by rw [bytes_eq_formBytes, opcode_eq_opXYZ, henc]⟩
  recognized := hrec
  event := by
    rintro i d r rfl
    rw [opcode_eq_opXYZ]
    exact unknownEvent_of_encode henc hprefix

theorem encode_shift (sh : Shift) (tgt : CbTgt) :
    encode (sh.instr tgt) = formBytes tgt (opXYZ 0 (BitVec.ofNat 3 sh.y) (operandField tgt)) := by
  cases tgt with
  | reg r => cases sh <;> rfl
  | mHl => cases sh <;> rfl
  | mXy x d =>
    rw [operandField]
    cases sh <;> rfl
  | mXyR x d r => cases sh <;> rfl

theorem cbForm_shift (sh : Shift) (tgt : CbTgt) : CbForm tgt sh.y (sh.instr tgt) := by
  have hy : sh.y = 8 * (0 : BitVec 2).toNat + (BitVec.ofNat 3 sh.y).toNat := by cases sh <;> rfl
  have henc := encode_shift sh tgt
  rw [hy]
  cases sh <;> cases tgt <;> exact .of_encode rfl henc rfl fun _ => rfl

theorem cbForm_bit (b : BitVec 3) (tgt : CbTgt) : CbForm tgt (8 + b.toNat) (tgt.bit b) := by
  cases tgt <;> exact .of_encode (x := 1) rfl rfl rfl fun _ => rfl

theorem cbForm_res (b : BitVec 3) (tgt : CbTgt) : CbForm tgt (16 + b.toNat) (tgt.res b) := by
  cases tgt <;> exact .of_encode (x := 2) rfl rfl rfl fun _ => rfl

theorem cbForm_set (b : BitVec 3) (tgt : CbTgt) : CbForm tgt (24 + b.toNat) (tgt.set b) := by
  cases tgt <;> exact .of_encode (x := 3) rfl rfl rfl fun _ => rfl

/-- The register-copy form executes, or raises its event (R97). -/
theorem CbForm.ifRecognized_eq {x : Idx} {d : Byte} {r : Reg8} {k : Nat} {i : Instr} (h : CbForm (.mXyR x d r) k i)
    (s : State) (op : State → State) : Host.Outcome.next (s.ifRecognized i op) =
      orUnknown (undoc s) s (xyCbTable x) ((CbTgt.mXyR x d r).opcode k) (op s) :=
  ifRecognized_eq_orUnknown op (h.recognized s.params) (h.event x d r rfl)

/-! ## Read, operate and write (R126) -/

/-- The model's operation on an operand; `i` is the instruction, which may be unrecognized in the register-copy form. -/
def cbOp (g : Byte → Byte → AluOut) (i : Instr) (s : State) : CbTgt → State
  | .reg r => s.rmwR g r
  | .mHl => s.selectHl.rmwM g
  | .mXy x d => (s.selectXy x d).rmwM g
  | .mXyR x d r => s.ifRecognized i fun t => (t.selectXy x d).rmwMR g r

theorem memOp_rmwMR (s : State) (g : Byte → Byte → AluOut) (r : Reg8) (hwf : Memory.wf s.mem = true) :
    MemOp s s.ea (fun v => (g s.regs.f v).r)
      (fun v => put { s.regs with f := (g s.regs.f v).f } r (g s.regs.f v).r) (.next (s.rmwMR g r)) :=
  ⟨_, Bus.stored_write8 s s.ea _ hwf, by cases r <;> rfl⟩

theorem gives_cbOp {tgt : CbTgt} {k : Nat} {s : State} {i : Instr} (g : Byte → Byte → AluOut) (hform : CbForm tgt k i)
    (hwf : Memory.wf s.mem = true) :
    tgt.Gives k s (fun v => (g s.regs.f v).r) (fun v => (g s.regs.f v).f) (.next (cbOp g i s tgt)) := by
  cases tgt with
  | reg r => exact congrArg _ (rmwR_eq s g r)
  | mHl =>
    have h := memOp_rmwM s.selectHl g hwf
    rwa [selectHl_ea] at h
  | mXy x d =>
    have h := memOp_rmwM (s.selectXy x d) g hwf
    rwa [selectXy_ea, selectXy_eq_atXy] at h
  | mXyR x d r =>
    have h := memOp_rmwMR (s.selectXy x d) g r hwf
    rw [selectXy_ea] at h
    rw [cbOp, hform.ifRecognized_eq, orUnknown, CbTgt.Gives]
    split
    · rwa [← selectXy_eq_atXy]
    · rfl

/-! ## The shifts (R128 to R135) -/

/-- The model's operation of a shift, on the old F and the operand. -/
def shiftOp (sh : Shift) (f v : Byte) : AluOut := shiftOut (shifted sh (flagC f) v)

theorem shiftOp_eq (sh : Shift) (f v : Byte) :
    shiftOp sh f v = ⟨sh.result (cy f) v, resultF (sh.result (cy f) v) false (sh.out v)⟩ := by
  rw [shiftOp, shifted_eq, shiftOut, shiftFlags_eq, flagC_eq_cy]

theorem exec_shift (sh : Shift) (tgt : CbTgt) (s : State) :
    exec (sh.instr tgt) s = .next (cbOp (shiftOp sh) (sh.instr tgt) s tgt) := by
  cases sh <;> cases tgt <;> rfl

/-- Settles O23: every shift, in every form. -/
theorem shiftsAndRotates : Obligations.ShiftsAndRotates := by
  intro sh tgt s hwf
  have hform := cbForm_shift sh tgt
  have h := gives_cbOp (shiftOp sh) hform hwf
  simp only [shiftOp_eq, ← exec_shift] at h
  exact ⟨decode_of_encodes hform.encodes, h⟩

/-! ## RES and SET (R137, R138) -/

theorem exec_res (b : BitVec 3) (tgt : CbTgt) (s : State) :
    exec (tgt.res b) s = .next (cbOp (resOut b) (tgt.res b) s tgt) := by
  cases tgt <;> rfl

theorem exec_set (b : BitVec 3) (tgt : CbTgt) (s : State) :
    exec (tgt.set b) s = .next (cbOp (setOut b) (tgt.set b) s tgt) := by
  cases tgt <;> rfl

/-- Settles O24: RES and SET, in every form. -/
theorem resetAndSetBit : Obligations.ResetAndSetBit := by
  intro b tgt s hwf
  have hres := gives_cbOp (resOut b) (cbForm_res b tgt) hwf
  have hset := gives_cbOp (setOut b) (cbForm_set b tgt) hwf
  simp only [resOut_eq, ← exec_res] at hres
  simp only [setOut_eq, ← exec_set] at hset
  exact ⟨⟨decode_of_encodes (cbForm_res b tgt).encodes, hres⟩, decode_of_encodes (cbForm_set b tgt).encodes, hset⟩

/-! ## BIT (R136) -/

theorem testBit_eq (s : State) (b : BitVec 3) (v src : Byte) :
    s.testBit b v src = { s with regs := { s.regs with f := bitF s.regs.f v src b } } := by
  rw [State.testBit, bitFlags_eq]
  rfl

/-- Bits 5 and 3 come from the high byte of the effective address. -/
theorem testBitM_eq (s : State) (b : BitVec 3) : s.testBitM b =
    { s with
      regs := { s.regs with f := bitF s.regs.f (s.peek s.ea) (high s.ea) b }
      bus := .memRead s.ea (s.peek s.ea) :: s.bus } := by
  rw [← hiByte_eq_high]
  exact testBit_eq s.noteM b s.m (hiByte s.ea)

theorem high_hl (s : State) : high (hl s) = s.regs.h := by
  rw [hl, ← HostActs.mkWord_eq_wordOf, ← hiByte_eq_high, hiByte_mkWord]

theorem testBitM_selectXy (s : State) (x : Idx) (d : Byte) (b : BitVec 3) : (s.selectXy x d).testBitM b =
    { atXy s x d with
      regs := { s.regs with f := bitF s.regs.f (s.peek (ea s x d)) (high (ea s x d)) b }
      bus := .memRead (ea s x d) (s.peek (ea s x d)) :: s.bus } := by
  rw [testBitM_eq, selectXy_ea, selectXy_eq_atXy]
  rfl

/-- Settles O25, form by form. -/
theorem bitTest : Obligations.BitTest := by
  intro b tgt s
  have hform := cbForm_bit b tgt
  refine ⟨decode_of_encodes hform.encodes, ?_⟩
  cases tgt with
  | reg r =>
    have hexec : exec ((CbTgt.reg r).bit b) s = .next (s.testBit b (s.getR r) (s.getR r)) := rfl
    rw [hexec, testBit_eq, getR_eq_get]
  | mHl =>
    have hexec : exec (CbTgt.mHl.bit b) s = .next (s.selectHl.testBitM b) := rfl
    rw [hexec, testBitM_eq, selectHl_ea, high_hl]
    rfl
  | mXy x d => exact congrArg _ (testBitM_selectXy s x d b)
  | mXyR x d r =>
    have hexec : exec ((CbTgt.mXyR x d r).bit b) s =
        .next (s.ifRecognized ((CbTgt.mXyR x d r).bit b) fun t => (t.selectXy x d).testBitM b) := rfl
    rw [hexec, hform.ifRecognized_eq, testBitM_selectXy]

/-! ## RLD and RRD (R139, R140) -/

theorem rotateDigits_eq (s : State) (o : DigitsOut) (hwf : Memory.wf s.mem = true) :
    ∃ cells, Stored s cells (hl s) o.m ∧ Host.Outcome.next (s.rotateDigits o) = (.next
      { s with
        mem := cells
        regs := { s.regs with a := o.a, f := resultF o.a false (cy s.regs.f) }
        bus := .memWrite (hl s) o.m :: .memRead (hl s) (s.peek (hl s)) :: s.bus } : Answer) := by
  rw [State.rotateDigits, inFlags_eq, ← selectHl_ea]
  exact ⟨_, Bus.stored_write8 s s.hl _ hwf, rfl⟩

theorem exec_rld (s : State) : exec .rld s = .next (s.rotateDigits (rldOut s.regs.a (s.peek (hl s)))) := by
  rw [← selectHl_ea]
  rfl

theorem exec_rrd (s : State) : exec .rrd s = .next (s.rotateDigits (rrdOut s.regs.a (s.peek (hl s)))) := by
  rw [← selectHl_ea]
  rfl

/-- Settles O26: the digits move by halves of a byte. -/
theorem digitRotates : Obligations.DigitRotates := by
  refine ⟨rfl, rfl, fun s hwf => ⟨?rld, ?rrd⟩⟩
  case rld =>
    have h := rotateDigits_eq s (rldOut s.regs.a (s.peek (hl s))) hwf
    rw [← exec_rld, rldOut_eq] at h
    exact h
  case rrd =>
    have h := rotateDigits_eq s (rrdOut s.regs.a (s.peek (hl s))) hwf
    rw [← exec_rrd, rrdOut_eq] at h
    exact h

end Sys2Proof.RotateBit
end

section
/-! PROOFS. O27 to O29: 16-bit arithmetic. The model chains two 8-bit operations (R141), the rules speak of the whole words; the
two agree because the low byte with the carry out of it is exactly the sum of the low operands (`sum8_add_carry`), and
likewise for the borrow (`diff8_add_operand`). -/

namespace Sys2Proof.Arith16

open Sys2Proof.Machine Sys2Proof.Claims Sys2Proof.Flags Sys2Proof.Operands Sys2Proof.Encoding Sys2Proof.HostActs
  Sys2Proof.Jumping

/-! ## Pairs and index registers (R69, R85) -/

theorem hl_eq (s : State) : s.hl = hl s := mkWord_eq_wordOf _ _

theorem getRp_eq_pair (s : State) (p : Pair) : s.getRp p = pair s p := by
  cases p with
  | bc => exact mkWord_eq_wordOf _ _
  | de => exact mkWord_eq_wordOf _ _
  | hl => exact hl_eq s
  | sp => rfl

theorem setRp_eq_putPair (s : State) (p : Pair) (v : Word) : s.setRp p v = putPair s p v := by
  cases p <;> simp only [State.setRp, State.setBc, State.setDe, State.setHl, State.setSp, putPair, putBc, putDe, putHl,
    hiByte_eq_high, loByte_eq_low]

theorem getIdx_eq_xy (s : State) (x : Idx) : s.getIdx x = xy s x := by
  cases x <;> rfl

theorem setIdx_eq_putXy (s : State) (x : Idx) (v : Word) : s.setIdx x v = putXy s x v := by
  cases x <;> rfl

theorem getXyRp_eq_xyPair (s : State) (x : Idx) (p : XyPair) : s.getXyRp x p = xyPair s x p := by
  cases p with
  | bc => exact mkWord_eq_wordOf _ _
  | de => exact mkWord_eq_wordOf _ _
  | xy => exact getIdx_eq_xy s x
  | sp => rfl

theorem putHl16_eq (s : State) (o : Alu16Out) :
    s.putHl16 o = { s with regs := { putHl s.regs o.r with f := o.f } } := by
  simp only [State.putHl16, State.setHl, State.setF, putHl, hiByte_eq_high, loByte_eq_low]

theorem putXy16_eq (s : State) (x : Idx) (o : Alu16Out) :
    s.putXy16 x o = { putXy s x o.r with regs := { s.regs with f := o.f } } := by
  cases x <;> rfl

/-! ## A byte operation and what it carries -/

/-- An addition's byte and carry together are the sum. -/
theorem sum8_add_carry (a b : Byte) (c : Bool) :
    (sum8 a b c).toNat + 256 * (cy (addF a b c)).toNat = a.toNat + b.toNat + c.toNat := by
  have := a.isLt; have := b.isLt; have := c.toNat_le
  rw [toNat_sum8, addF, cy, (bitOf_fByte ..).2.2.2.2.2.2.2]
  by_cases h : 256 ≤ a.toNat + b.toNat + c.toNat <;> simp only [h, decide_true, decide_false, Bool.toNat_true,
    Bool.toNat_false] <;> omega

/-- A subtraction's byte and the operands it subtracts together are `a` and the borrow. -/
theorem diff8_add_operand (a b : Byte) (c : Bool) :
    (diff8 a b c).toNat + b.toNat + c.toNat = a.toNat + 256 * (cy (subF a b c)).toNat := by
  have := a.isLt; have := b.isLt; have := c.toNat_le
  simp only [toNat_diff8, subF, subFrom, cy, bitOf_fByte]
  by_cases h : a.toNat < b.toNat + c.toNat <;> simp only [h, decide_true, decide_false, Bool.toNat_true,
    Bool.toNat_false] <;> omega

/-! ## The bytes of a word -/

theorem toInt_eq_bytes (w : Word) : w.toInt = 256 * (hiByte w).toInt + (loByte w).toNat := by
  have := w.isLt
  rw [BitVec.toInt_eq_toNat_cond, BitVec.toInt_eq_toNat_cond, hiByte_toNat, loByte_toNat]
  split <;> split <;> omega

/-- Signed overflow of a word is that of its high byte. -/
theorem overflow16_of_bytes {t h : Int} {l : Byte} (ht : t = 256 * h + l.toNat) : overflow16 t = overflow8 h := by
  have := l.isLt
  rw [overflow16, overflow8, ← Bool.decide_or, ← Bool.decide_or, decide_eq_decide]
  omega

theorem high_mkWord (hi lo : Byte) : high (mkWord hi lo) = hi := by
  rw [← hiByte_eq_high, hiByte_mkWord]

/-- A chain takes S, 5 and 3 from the high byte, which has them from the word, and Z from both bytes. -/
theorem chainFlags_eq (hi lo : Byte) (fh fpv fn fc : Bool) :
    chainFlags (fByte (decide (128 ≤ hi.toNat)) (decide (hi.toNat = 0)) (bitOf hi 5) fh (bitOf hi 3) fpv fn fc) lo =
      let r := mkWord hi lo
      fByte (decide (32768 ≤ r.toNat)) (decide (r.toNat = 0)) (bitOf (high r) 5) fh (bitOf (high r) 3) fpv fn fc := by
  have := lo.isLt
  have hs : decide (128 ≤ hi.toNat) = decide (32768 ≤ (mkWord hi lo).toNat) := by
    rw [mkWord_toNat, decide_eq_decide]
    omega
  have hz : (decide (hi.toNat = 0) && decide (lo.toNat = 0)) = decide ((mkWord hi lo).toNat = 0) := by
    rw [mkWord_toNat, ← Bool.decide_and, decide_eq_decide]
    omega
  simp only [chainFlags, flagS, flagZ, flag5, flagH, flag3, flagPV, flagN, flagC, packF_eq_fByte, bitAt_eq_bitOf,
    bitOf_fByte, beq_zero, high_mkWord, hs, hz]

/-! ## Addition (R142, R143) -/

section
variable (a b : Word) (c : Bool)

/-- The carry from the low bytes into the high bytes. -/
def carryLow : Bool := cy (addF (loByte a) (loByte b) c)

theorem low_sum_eq : (sum8 (loByte a) (loByte b) c).toNat + 256 * (carryLow a b c).toNat =
    a.toNat % 256 + b.toNat % 256 + c.toNat := by
  rw [carryLow, sum8_add_carry, loByte_toNat, loByte_toNat]

theorem mkWord_sum8 :
    mkWord (sum8 (hiByte a) (hiByte b) (carryLow a b c)) (sum8 (loByte a) (loByte b) c) = sum16 a b c := by
  have := low_sum_eq a b c
  have := (sum8 (loByte a) (loByte b) c).isLt
  apply BitVec.eq_of_toNat_eq
  rw [mkWord_toNat, toNat_sum8 (hiByte a), hiByte_toNat, hiByte_toNat, sum16, BitVec.toNat_ofNat]
  omega

theorem high_sum16 : high (sum16 a b c) = sum8 (hiByte a) (hiByte b) (carryLow a b c) := by
  rw [← mkWord_sum8, high_mkWord]

/-- H, PV and C of the high bytes are the words' own. -/
theorem addF_hiByte : addF (hiByte a) (hiByte b) (carryLow a b c) =
    let r := sum8 (hiByte a) (hiByte b) (carryLow a b c)
    fByte (decide (128 ≤ r.toNat)) (decide (r.toNat = 0)) (bitOf r 5) (half16 a b c) (bitOf r 3)
      (overflow16 (a.toInt + b.toInt + c.toNat)) false (carry16 a b c) := by
  have hlow := low_sum_eq a b c
  have := (sum8 (loByte a) (loByte b) c).isLt
  have hhalf : decide (16 ≤ (hiByte a).toNat % 16 + (hiByte b).toNat % 16 + (carryLow a b c).toNat) = half16 a b c := by
    rw [half16, hiByte_toNat, hiByte_toNat, decide_eq_decide]
    omega
  have hcarry : decide (256 ≤ (hiByte a).toNat + (hiByte b).toNat + (carryLow a b c).toNat) = carry16 a b c := by
    rw [carry16, hiByte_toNat, hiByte_toNat, decide_eq_decide]
    omega
  have hover : overflow16 (a.toInt + b.toInt + c.toNat) =
      overflow8 ((hiByte a).toInt + (hiByte b).toInt + (carryLow a b c).toNat) := by
    apply overflow16_of_bytes (l := sum8 (loByte a) (loByte b) c)
    rw [toInt_eq_bytes a, toInt_eq_bytes b, loByte_toNat, loByte_toNat]
    omega
  simp only [addF, hhalf, hcarry, hover]

theorem add16_eq (old : Byte) : add16 a b old =
    let r := sum16 a b false
    ⟨r, keptF old (high r) (half16 a b false) false (carry16 a b false)⟩ := by
  simp only [add16, addWithCarry_eq, flagC_eq_cy]
  rw [← carryLow, addF_hiByte, mkWord_sum8]
  simp only [high_sum16, keptF, flagS, flagZ, flagH, flagPV, cy, packF_eq_fByte, bitAt_eq_bitOf, bitOf_fByte]

theorem adc16_eq : adc16 a b c = ⟨sum16 a b c, adcF a b c⟩ := by
  simp only [adc16, addWithCarry_eq, flagC_eq_cy]
  rw [← carryLow, addF_hiByte, chainFlags_eq, mkWord_sum8, adcF]

/-! ## Subtraction (R144) -/

/-- The borrow of the low bytes from the high bytes. -/
def borrowLow : Bool := cy (subF (loByte a) (loByte b) c)

theorem low_diff_eq : (diff8 (loByte a) (loByte b) c).toNat + b.toNat % 256 + c.toNat =
    a.toNat % 256 + 256 * (borrowLow a b c).toNat := by
  rw [borrowLow, ← loByte_toNat a, ← loByte_toNat b, diff8_add_operand]

theorem mkWord_diff8 :
    mkWord (diff8 (hiByte a) (hiByte b) (borrowLow a b c)) (diff8 (loByte a) (loByte b) c) = diff16 a b c := by
  have := low_diff_eq a b c
  have := (diff8 (loByte a) (loByte b) c).isLt
  have := b.isLt; have := (borrowLow a b c).toNat_le
  apply BitVec.eq_of_toNat_eq
  rw [mkWord_toNat, toNat_diff8 (hiByte a), hiByte_toNat, hiByte_toNat, diff16, BitVec.toNat_ofInt]
  omega

/-- H, PV and C of the high bytes are the words' own. -/
theorem subF_hiByte : subF (hiByte a) (hiByte b) (borrowLow a b c) =
    let r := diff8 (hiByte a) (hiByte b) (borrowLow a b c)
    fByte (decide (128 ≤ r.toNat)) (decide (r.toNat = 0)) (bitOf r 5)
      (decide (a.toNat % 4096 < b.toNat % 4096 + c.toNat)) (bitOf r 3)
      (overflow16 (a.toInt - b.toInt - c.toNat)) true (decide (a.toNat < b.toNat + c.toNat)) := by
  have hlow := low_diff_eq a b c
  have := (diff8 (loByte a) (loByte b) c).isLt
  have hhalf : decide ((hiByte a).toNat % 16 < (hiByte b).toNat % 16 + (borrowLow a b c).toNat) =
      decide (a.toNat % 4096 < b.toNat % 4096 + c.toNat) := by
    rw [hiByte_toNat, hiByte_toNat, decide_eq_decide]
    omega
  have hborrow : decide ((hiByte a).toNat < (hiByte b).toNat + (borrowLow a b c).toNat) =
      decide (a.toNat < b.toNat + c.toNat) := by
    rw [hiByte_toNat, hiByte_toNat, decide_eq_decide]
    omega
  have hover : overflow16 (a.toInt - b.toInt - c.toNat) =
      overflow8 ((hiByte a).toInt - (hiByte b).toInt - (borrowLow a b c).toNat) := by
    apply overflow16_of_bytes (l := diff8 (loByte a) (loByte b) c)
    rw [toInt_eq_bytes a, toInt_eq_bytes b, loByte_toNat, loByte_toNat]
    omega
  simp only [subF, subFrom, hhalf, hborrow, hover]

theorem sbc16_eq : sbc16 a b c = ⟨diff16 a b c, sbcF a b c⟩ := by
  simp only [sbc16, subWithBorrow_eq, flagC_eq_cy]
  rw [← borrowLow, subF_hiByte, chainFlags_eq, mkWord_diff8, sbcF]

end

/-! ## INC and DEC (R145, R146) -/

theorem word_add_one_eq (w : Word) : w + 1 = BitVec.ofNat 16 (w.toNat + 1) := rfl

theorem word_sub_one_eq (w : Word) : w - 1 = BitVec.ofNat 16 (w.toNat + 65535) := by
  rw [BitVec.sub_def, Nat.add_comm]
  rfl

/-- Settles O29: the pair or index register is read, stepped and written back. -/
theorem incrementDecrementPair : Obligations.IncrementDecrementPair := by
  refine fun s => ⟨fun p => ⟨by cases p <;> rfl, by cases p <;> rfl, ?incRp, ?decRp⟩,
    fun x => ⟨by cases x <;> rfl, by cases x <;> rfl, ?incXy, ?decXy⟩⟩
  case incRp =>
    rw [← setRp_eq_putPair, ← getRp_eq_pair, ← word_add_one_eq]
    rfl
  case decRp =>
    rw [← setRp_eq_putPair, ← getRp_eq_pair, ← word_sub_one_eq]
    rfl
  case incXy =>
    rw [← setIdx_eq_putXy, ← getIdx_eq_xy, ← word_add_one_eq]
    rfl
  case decXy =>
    rw [← setIdx_eq_putXy, ← getIdx_eq_xy, ← word_sub_one_eq]
    rfl

/-! ## ADD, ADC and SBC -/

/-- Settles O27: the destination is HL or the index register. -/
theorem add16KeepsSignZeroParity : Obligations.Add16KeepsSignZeroParity := by
  refine fun s => ⟨fun p => ⟨by cases p <;> rfl, ?addHl⟩, fun x p => ⟨by cases x <;> cases p <;> rfl, ?addXy⟩⟩
  case addHl =>
    have hexec : exec (.addHlRp p) s = .next (s.putHl16 (add16 s.hl (s.getRp p) s.regs.f)) := rfl
    rw [hexec, putHl16_eq, add16_eq, hl_eq, getRp_eq_pair]
  case addXy =>
    have hexec : exec (.addXyRp x p) s = .next (s.putXy16 x (add16 (s.getIdx x) (s.getXyRp x p) s.regs.f)) := rfl
    rw [hexec, putXy16_eq, add16_eq, getIdx_eq_xy, getXyRp_eq_xyPair]

/-- Settles O28: the chain with the old carry, added or subtracted. -/
theorem adcAndSbc16SetAllFlags : Obligations.AdcAndSbc16SetAllFlags := by
  refine fun p s => ⟨by cases p <;> rfl, by cases p <;> rfl, ?adc, ?sbc⟩
  case adc =>
    have hexec : exec (.adcHlRp p) s = .next (s.putHl16 (adc16 s.hl (s.getRp p) (flagC s.regs.f))) := rfl
    rw [hexec, putHl16_eq, adc16_eq, hl_eq, getRp_eq_pair, flagC_eq_cy]
  case sbc =>
    have hexec : exec (.sbcHlRp p) s = .next (s.putHl16 (sbc16 s.hl (s.getRp p) (flagC s.regs.f))) := rfl
    rw [hexec, putHl16_eq, sbc16_eq, hl_eq, getRp_eq_pair, flagC_eq_cy]

end Sys2Proof.Arith16
end

section
/-! PROOFS. O30 to O34 and O36: the loads. What is read and what is written (a register, a half, a pair, the byte or the word at
an address, I, R, a draw) is said once in the words of the rules; an instruction is one of these written to another. -/

namespace Sys2Proof.Loads

open Sys2Proof.Machine Sys2Proof.Claims Sys2Proof.Flags Sys2Proof.Operands Sys2Proof.Encoding Sys2Proof.HostActs
  Sys2Proof.Arith16

/-! ## Registers and halves (R147 to R149) -/

theorem setR_eq_put (s : State) (r : Reg8) (v : Byte) : s.setR r v = { s with regs := put s.regs r v } := by
  cases r <;> rfl

/-- The code of a source of `LD XYH/XYL,s` (R68, R89). -/
def halfSrcNo : HalfSrc → Nat
  | .b => 0 | .c => 1 | .d => 2 | .e => 3 | .xyh => 4 | .xyl => 5 | .a => 7

/-- A source of `LD XYH/XYL,s`: codes 4 and 5 are the halves of the same index register (R147). -/
def halfSrc (s : State) (x : Idx) : HalfSrc → Byte
  | .b => s.regs.b | .c => s.regs.c | .d => s.regs.d | .e => s.regs.e
  | .xyh => xyHalf s x .hi | .xyl => xyHalf s x .lo | .a => s.regs.a

theorem getHalfSrc_eq_halfSrc (s : State) (x : Idx) (q : HalfSrc) : s.getHalfSrc x q = halfSrc s x q := by
  cases q with
  | xyh => exact getHalf_eq_xyHalf s x .hi
  | xyl => exact getHalf_eq_xyHalf s x .lo
  | b | c | d | e | a => rfl

theorem exec_ldXyHalfN (s : State) (x : Idx) (h : Half) (n : Byte) : exec (.ldXyHalfN x h n) s =
    orUnknown (undoc s) s (xyTable x) (BitVec.ofNat 8 (0x26 + 8 * halfNo h)) (putHalf s x h n) := by
  rw [← setHalf_eq_putHalf]
  exact ifRecognized_eq_orUnknown (fun t => t.setHalf x h n) rfl (by cases x <;> cases h <;> rfl)

theorem encodes_ldRXyHalf (x : Idx) {r : Reg8} (h : Half) (hh : r ≠ .h) (hl : r ≠ .l) :
    Encodes (.ldRXyHalf x r h) [prefixByte x, BitVec.ofNat 8 (0x44 + 8 * code r + halfNo h)] :=
  ⟨by simp [Instr.wf, hh, hl], by cases x <;> cases r <;> cases h <;> rfl⟩

theorem exec_ldRXyHalf (s : State) (x : Idx) (r : Reg8) (h : Half) : exec (.ldRXyHalf x r h) s =
    orUnknown (undoc s) s (xyTable x) (BitVec.ofNat 8 (0x44 + 8 * code r + halfNo h))
      { s with regs := put s.regs r (xyHalf s x h) } := by
  rw [← getHalf_eq_xyHalf, ← setR_eq_put]
  exact ifRecognized_eq_orUnknown (fun t => t.setR r (t.getHalf x h)) rfl
    (by cases x <;> cases r <;> cases h <;> rfl)

theorem decode_ldXyHalfS (x : Idx) (h : Half) (q : HalfSrc) :
    decode [prefixByte x, BitVec.ofNat 8 (0x60 + 8 * halfNo h + halfSrcNo q)] = .ok (.ldXyHalfS x h q) := by
  cases x <;> cases h <;> cases q <;> rfl

theorem exec_ldXyHalfS (s : State) (x : Idx) (h : Half) (q : HalfSrc) : exec (.ldXyHalfS x h q) s =
    orUnknown (undoc s) s (xyTable x) (BitVec.ofNat 8 (0x60 + 8 * halfNo h + halfSrcNo q))
      (putHalf s x h (halfSrc s x q)) := by
  rw [← getHalfSrc_eq_halfSrc, ← setHalf_eq_putHalf]
  exact ifRecognized_eq_orUnknown (fun t => t.setHalf x h (t.getHalfSrc x q)) rfl
    (by cases x <;> cases h <;> cases q <;> rfl)

/-- Settles O30: one byte is copied between registers, or to or from a half where the parameters recognize the form. -/
theorem registerLoads : Obligations.RegisterLoads := by
  refine fun s => ⟨fun r q => ⟨by cases r <;> cases q <;> rfl, ?ldRR⟩, fun r n => ⟨by cases r <;> rfl, ?ldRN⟩,
    fun x h n => ⟨by cases x <;> cases h <;> rfl, exec_ldXyHalfN s x h n⟩,
    fun x r h => ⟨fun hh hl => decode_of_encodes (encodes_ldRXyHalf x h hh hl), exec_ldRXyHalf s x r h⟩,
    fun x h q => ⟨decode_ldXyHalfS x h q, exec_ldXyHalfS s x h q⟩⟩
  case ldRR =>
    rw [← getR_eq_get, ← setR_eq_put]
    rfl
  case ldRN =>
    rw [← setR_eq_put]
    rfl

/-! ## A byte of memory (R150, R153 to R155) -/

/-- The memory operand loaded into the true register (R150). -/
theorem withM_setR (s : State) (r : Reg8) : s.withM (fun t v => t.setR r v) =
    { s with regs := put s.regs r (s.peek s.ea), bus := .memRead s.ea (s.peek s.ea) :: s.bus } :=
  setR_eq_put s.noteM r s.m

theorem exec_ldRMHl (s : State) (r : Reg8) : exec (.ldRMHl r) s = .next { atHl s with
    regs := put s.regs r (s.peek (hl s)), bus := .memRead (hl s) (s.peek (hl s)) :: s.bus } := by
  have hexec : exec (.ldRMHl r) s = .next (s.selectHl.withM fun t v => t.setR r v) := rfl
  rw [hexec, withM_setR, selectHl_ea]
  rfl

theorem exec_ldRMXy (s : State) (x : Idx) (r : Reg8) (d : Byte) : exec (.ldRMXy x r d) s = .next { atXy s x d with
    regs := put s.regs r (s.peek (ea s x d)), bus := .memRead (ea s x d) (s.peek (ea s x d)) :: s.bus } := by
  have hexec : exec (.ldRMXy x r d) s = .next ((s.selectXy x d).withM fun t v => t.setR r v) := rfl
  rw [hexec, withM_setR, selectXy_ea, selectXy_eq_atXy]
  rfl

theorem bc_eq (s : State) : s.bc = bc s := mkWord_eq_wordOf _ _

theorem de_eq (s : State) : s.de = de s := mkWord_eq_wordOf _ _

/-- Settles O31: the byte at the operand's address is read into the register. -/
theorem loadsFromMemory : Obligations.LoadsFromMemory := by
  refine fun s => ⟨fun r => ⟨by cases r <;> rfl, exec_ldRMHl s r⟩,
    fun x r d => ⟨by cases x <;> cases r <;> rfl, exec_ldRMXy s x r d⟩,
    rfl, ?ldAMBc, rfl, ?ldAMDe, fun lo hi => ⟨?decode, fun nn => rfl⟩⟩
  case ldAMBc =>
    rw [← bc_eq]
    rfl
  case ldAMDe =>
    rw [← de_eq]
    rfl
  case decode =>
    rw [← mkWord_eq_wordOf]
    rfl

/-! ## I and R (R159 to R162) -/

theorem ldAirFlags_eq (old v : Byte) (iff1 : Bool) : ldAirFlags old v iff1 =
    fByte (decide (128 ≤ v.toNat)) (decide (v.toNat = 0)) (bitOf v 5) false (bitOf v 3) iff1 false (cy old) := by
  rw [ldAirFlags, packF_eq_fByte, flagC_eq_cy, beq_zero]
  simp only [Jumping.bitAt_eq_bitOf, bitOf_seven]

theorem drew_eq (s : State) : drew s = (s.drawn, s.afterDraw) := by
  unfold drew State.drawn State.afterDraw
  cases s.inputs <;> rfl

/-- Bit 7 of R and bits 6:0 of the draw (R162). -/
theorem drawnR_eq (s : State) :
    s.drawnR = BitVec.ofNat 8 (s.r.toNat / 128 * 128 + (drew s).1.toNat % 128) := by
  rw [drew_eq]
  exact Fetching.bit7_or_low s.r s.drawn

/-- A draw changes nothing that the load looks at. -/
theorem loadAir_afterDraw (s : State) (v : Byte) : s.afterDraw.loadAir v = { s.afterDraw with
    regs := { s.regs with a := v, f := ldAirFlags s.regs.f v s.iff1 } } := by
  rw [State.afterDraw_frame]
  rfl

/-- Settles O33: the copies, and the flags from the value and IFF1. -/
theorem interruptAndRefreshLoads : Obligations.InterruptAndRefreshLoads := by
  refine ⟨rfl, rfl, rfl, rfl, fun s => ?_⟩
  have hexec : exec .ldAR s = .next s.loadAFromR := rfl
  simp only [← ldAirFlags_eq]
  refine ⟨rfl, rfl, rfl, fun hm1 => ?m1, fun hdraw => ?draw⟩
  case m1 =>
    rw [hexec, State.loadAFromR, hm1]
    rfl
  case draw =>
    rw [hexec, State.loadAFromR, hdraw, ← drawnR_eq, drew_eq]
    exact congrArg _ (loadAir_afterDraw s s.drawnR)

/-! ## Words (R163 to R170) -/

theorem peek16_eq_word (s : State) (a : Word) : s.peek16 a = word s a := mkWord_eq_wordOf _ _

theorem getQq_eq_stackPair (s : State) (p : StackPair) : s.getQq p = stackPair s p := by
  cases p <;> exact mkWord_eq_wordOf _ _

theorem setQq_eq_putStackPair (s : State) (p : StackPair) (v : Word) : s.setQq p v = putStackPair s p v := by
  cases p <;> simp only [State.setQq, State.setBc, State.setDe, State.setHl, State.setAf, putStackPair, putBc, putDe,
    putHl, putAf, hiByte_eq_high, loByte_eq_low]

theorem exec_ldRpMNn (s : State) (p : Pair) (nn : Word) :
    exec (.ldRpMNn p nn) s = .next { putPair s p (word s nn) with bus := readWord s nn } := by
  have hexec : exec (.ldRpMNn p nn) s = .next ((s.noteRead16 nn).setRp p (s.peek16 nn)) := rfl
  rw [hexec, setRp_eq_putPair, peek16_eq_word]
  cases p <;> rfl

theorem exec_ldXyMNn (s : State) (x : Idx) (nn : Word) :
    exec (.ldXyMNn x nn) s = .next { putXy s x (word s nn) with bus := readWord s nn } := by
  have hexec : exec (.ldXyMNn x nn) s = .next ((s.noteRead16 nn).setIdx x (s.peek16 nn)) := rfl
  rw [hexec, setIdx_eq_putXy, peek16_eq_word]
  cases x <;> rfl

/-- Settles O34: the immediate, the word at nn, or the index register. -/
theorem pairLoads : Obligations.PairLoads := by
  unfold Obligations.PairLoads
  simp only [← mkWord_eq_wordOf]
  refine fun s => ⟨fun p lo hi => ⟨by cases p <;> rfl, by cases p <;> rfl⟩,
    fun x lo hi => ⟨by cases x <;> rfl, by cases x <;> rfl⟩, fun lo hi => rfl, rfl, fun x => by cases x <;> rfl,
    fun nn => ⟨fun p => ⟨?ldRpNn, exec_ldRpMNn s p nn⟩, fun x => ⟨?ldXyNn, exec_ldXyMNn s x nn⟩,
      exec_ldRpMNn s .hl nn⟩, ?ldSpHl, fun x => ?ldSpXy⟩
  case ldRpNn =>
    rw [← setRp_eq_putPair]
    rfl
  case ldXyNn =>
    rw [← setIdx_eq_putXy]
    rfl
  case ldSpHl =>
    rw [← hl_eq]
    rfl
  case ldSpXy =>
    rw [← getIdx_eq_xy]
    rfl

/-- Settles O36: the word at SP, written after SP has gone up by 2. -/
theorem popLoadsPair : Obligations.PopLoadsPair := by
  refine fun s => ⟨fun p => ⟨by cases p <;> rfl, ?popQq⟩, fun x => ⟨by cases x <;> rfl, ?popXy⟩⟩
  case popQq =>
    rw [← setQq_eq_putStackPair, ← peek16_eq_word]
    rfl
  case popXy =>
    rw [← setIdx_eq_putXy, ← peek16_eq_word]
    rfl

end Sys2Proof.Loads
end

section
/-! PROOFS. O32, O35 and O37: the stores, PUSH and the exchanges. A byte store leaves one byte changed (`Bus.stored_write8`); a
word is two byte stores at two addresses (`storedWord_of_stored`), whatever was read before. -/

namespace Sys2Proof.MemoryStores

open Sys2Proof.Machine Sys2Proof.Claims Sys2Proof.Operands Sys2Proof.HostActs Sys2Proof.Arith16 Sys2Proof.Loads

/-! ## One byte (R151, R152, R156 to R158) -/

theorem next_write8 (s : State) (a : Word) (v : Byte) (hwf : Memory.wf s.mem = true) :
    ∃ m, Stored s m a v ∧
      Host.Outcome.next (s.write8 a v) = (.next { s with mem := m, bus := .memWrite a v :: s.bus } : Answer) :=
  ⟨_, Bus.stored_write8 s a v hwf, rfl⟩

theorem next_writeM_selectHl (s : State) (v : Byte) (hwf : Memory.wf s.mem = true) :
    ∃ m, Stored s m (hl s) v ∧ Host.Outcome.next (s.selectHl.writeM v) =
      (.next { atHl s with mem := m, bus := .memWrite (hl s) v :: s.bus } : Answer) := by
  rw [State.writeM, selectHl_ea]
  exact next_write8 (atHl s) (hl s) v hwf

theorem next_writeM_selectXy (s : State) (x : Idx) (d v : Byte) (hwf : Memory.wf s.mem = true) :
    ∃ m, Stored s m (ea s x d) v ∧ Host.Outcome.next ((s.selectXy x d).writeM v) =
      (.next { atXy s x d with mem := m, bus := .memWrite (ea s x d) v :: s.bus } : Answer) := by
  rw [State.writeM, selectXy_ea, selectXy_eq_atXy]
  exact next_write8 (atXy s x d) (ea s x d) v hwf

/-- Settles O32: one byte store at the operand's address. -/
theorem storesToMemory : Obligations.StoresToMemory := by
  unfold Obligations.StoresToMemory
  simp only [← mkWord_eq_wordOf, ← bc_eq, ← de_eq, ← getR_eq_get]
  exact fun s hwf => ⟨fun r => ⟨by cases r <;> rfl, next_writeM_selectHl s (s.getR r) hwf⟩,
    fun x d r => ⟨by cases x <;> cases r <;> rfl, next_writeM_selectXy s x d (s.getR r) hwf⟩,
    fun n => ⟨rfl, next_writeM_selectHl s n hwf⟩,
    fun x d n => ⟨by cases x <;> rfl, next_writeM_selectXy s x d n hwf⟩,
    rfl, next_write8 s s.bc s.regs.a hwf, rfl, next_write8 s s.de s.regs.a hwf,
    fun lo hi => rfl, fun nn => next_write8 s nn s.regs.a hwf⟩

/-! ## One word (R165, R167, R169) -/

/-- The byte at `a`, then the byte at `a + 1`: the second store leaves the first byte alone. -/
theorem storedWord_of_stored {s : State} {m m' : List Host.Cell} {a v : Word} (hlow : Stored s m a (low v))
    (hhigh : Stored { s with mem := m } m' (a + 1) (high v)) : StoredWord s m' a v := by
  obtain ⟨-, hm⟩ := hlow
  obtain ⟨hwf, hm'⟩ := hhigh
  refine ⟨hwf, fun b => (hm' b).trans ?_⟩
  rw [hm b]
  by_cases hb : b = a
  · simp [hb]
  · simp only [hb, false_and, if_false]
    rfl

theorem storedWord_write16 (s : State) (a v : Word) (hwf : Memory.wf s.mem = true) :
    StoredWord s (s.write16 a v).mem a v := by
  have hlow := Bus.stored_write8 s a (low v) hwf
  rw [State.write16, hiByte_eq_high, loByte_eq_low]
  exact storedWord_of_stored hlow (Bus.stored_write8 _ (a + 1) (high v) hlow.1)

theorem write16_frame (s : State) (a v : Word) :
    s.write16 a v = { s with mem := (s.write16 a v).mem, bus := wroteWord s.bus a v } := by
  rw [State.write16, hiByte_eq_high, loByte_eq_low]
  rfl

theorem next_write16 (s : State) (a v : Word) (hwf : Memory.wf s.mem = true) :
    ∃ m, StoredWord s m a v ∧
      Host.Outcome.next (s.write16 a v) = (.next { s with mem := m, bus := wroteWord s.bus a v } : Answer) :=
  ⟨_, storedWord_write16 s a v hwf, congrArg _ (write16_frame s a v)⟩

theorem pushed_push16 (s : State) (v : Word) (hwf : Memory.wf s.mem = true) : Pushed s (s.push16 v) v :=
  ⟨_, storedWord_write16 { s with sp := s.sp - 2 } (s.sp - 2) v hwf, write16_frame _ _ _⟩

/-- Settles O35: a word is stored at nn, or at SP after SP has gone down by 2. -/
theorem pairStores : Obligations.PairStores := by
  unfold Obligations.PairStores
  simp only [← mkWord_eq_wordOf, ← hl_eq, ← getIdx_eq_xy, ← getRp_eq_pair, ← getQq_eq_stackPair]
  exact fun s hwf => ⟨
    fun lo hi => ⟨rfl, fun x => by cases x <;> rfl, fun p => by cases p <;> rfl⟩,
    fun nn => ⟨next_write16 s nn s.hl hwf, fun x => next_write16 s nn (s.getIdx x) hwf,
      fun p => next_write16 s nn (s.getRp p) hwf⟩,
    fun p => ⟨by cases p <;> rfl, _, pushed_push16 s (s.getQq p) hwf, rfl⟩,
    fun x => ⟨by cases x <;> rfl, _, pushed_push16 s (s.getIdx x) hwf, rfl⟩⟩

/-! ## Exchanges (R171 to R174) -/

theorem setHl_de_setDe_hl (s : State) : (s.setDe s.hl).setHl s.de =
    { s with regs := { s.regs with d := s.regs.h, e := s.regs.l, h := s.regs.d, l := s.regs.e } } := by
  simp only [State.setDe, State.setHl, State.hl, State.de, hiByte_mkWord, loByte_mkWord]

/-- The word at SP is read, then another is written there. -/
theorem exchangeTop (s : State) (v : Word) (hwf : Memory.wf s.mem = true) :
    ∃ m, StoredWord s m s.sp v ∧ (s.noteRead16 s.sp).write16 s.sp v =
      { s with mem := m, bus := wroteWord (readWord s s.sp) s.sp v } :=
  ⟨_, storedWord_write16 (s.noteRead16 s.sp) s.sp v hwf, write16_frame _ _ _⟩

theorem exec_exMSpHl (s : State) (hwf : Memory.wf s.mem = true) :
    ∃ m, StoredWord s m s.sp (hl s) ∧ exec .exMSpHl s = .next { s with
      regs := putHl s.regs (word s s.sp), mem := m, bus := wroteWord (readWord s s.sp) s.sp (hl s) } := by
  obtain ⟨m, hm, ht⟩ := exchangeTop s (hl s) hwf
  have hexec : exec .exMSpHl s = .next (((s.noteRead16 s.sp).write16 s.sp s.hl).setRp .hl (s.peek16 s.sp)) := rfl
  rw [hexec, hl_eq, ht, setRp_eq_putPair, peek16_eq_word]
  exact ⟨m, hm, rfl⟩

theorem exec_exMSpXy (s : State) (x : Idx) (hwf : Memory.wf s.mem = true) :
    ∃ m, StoredWord s m s.sp (xy s x) ∧ exec (.exMSpXy x) s = .next { putXy s x (word s s.sp) with
      mem := m, bus := wroteWord (readWord s s.sp) s.sp (xy s x) } := by
  obtain ⟨m, hm, ht⟩ := exchangeTop s (xy s x) hwf
  have hexec : exec (.exMSpXy x) s =
    .next (((s.noteRead16 s.sp).write16 s.sp (s.getIdx x)).setIdx x (s.peek16 s.sp)) := rfl
  rw [hexec, getIdx_eq_xy, ht, setIdx_eq_putXy, peek16_eq_word]
  exact ⟨m, hm, by cases x <;> rfl⟩

/-- Settles O37: the registers change places, or the register and the word at SP. -/
theorem exchanges : Obligations.Exchanges :=
  ⟨rfl, rfl, rfl, rfl, fun x => by cases x <;> rfl, fun s => ⟨congrArg _ (setHl_de_setDe_hl s), rfl, rfl,
    fun hwf => ⟨exec_exMSpHl s hwf, fun x => exec_exMSpXy s x hwf⟩⟩⟩

end Sys2Proof.MemoryStores
end

section
/-! PROOFS. O38 to O41: the block instructions. The four forms of a group are one step, up or down, that a repeating
form runs again (`repeating_eq_repeats`); of each group only the step is its own, said once in the words of the rules. -/

namespace Sys2Proof.Blocks

open Sys2Proof.Machine Sys2Proof.Claims Sys2Proof.Flags Sys2Proof.Operands Sys2Proof.HostActs Sys2Proof.Arith16
  Sys2Proof.Loads Sys2Proof.Jumping

/-! ## Direction and repetition (R175, R176) -/

/-- The word a step adds (R175). -/
def dir (up : Bool) : Word := if up then stepUp else stepDown

theorem add_dir (w : Word) (up : Bool) : w + dir up = moved up w := by
  cases up with
  | true => rfl
  | false => exact (BitVec.sub_eq_add_neg w 1).symm

/-- What a form does after its step: a repeating one goes back while `again` holds (R176). -/
def repeating (rep : Bool) (i : Instr) (again : State → Bool) (t : State) : State :=
  if rep then t.repeatIf i again else t

/-- A step changes nothing that going back looks at. -/
theorem repeating_eq_repeats (s t : State) {i : Instr} (rep : Bool) (again : State → Bool)
    (hextra : (cycleTable.getD i.row (0, 0)).2 = if rep then 5 else 0) (hpc : t.pc = s.pc)
    (hbudget : t.budget = s.budget) (hparams : t.params = s.params) :
    repeating rep i again t = repeats (rep && again t) s i t := by
  cases rep with
  | false => rfl
  | true =>
    have hcharged : extra s i 5 = t.budget - (i.extraCost t.params : Nat) := by
      rw [hbudget, hparams]
      exact extra_eq s hextra
    rw [repeats, hcharged, ← hpc]
    rfl

theorem setHl_eq (s : State) (v : Word) : s.setHl v = { s with regs := putHl s.regs v } := setRp_eq_putPair s .hl v

theorem setDe_eq (s : State) (v : Word) : s.setDe v = { s with regs := putDe s.regs v } := setRp_eq_putPair s .de v

theorem setBc_eq (s : State) (v : Word) : s.setBc v = { s with regs := putBc s.regs v } := setRp_eq_putPair s .bc v

theorem bc_of_putBc {s : State} {g : Regs} {v : Word} (h : s.regs = putBc g v) : s.bc = v := by
  rw [State.bc, h, putBc, ← hiByte_eq_high, ← loByte_eq_low, mkWord_hi_lo]

theorem bne_zero_eq_decide {n : Nat} (v : BitVec n) : (v != 0#n) = decide (v ≠ 0#n) := decide_not.symm

/-- PV of the transfer and the compare step (R177, R182). -/
theorem count_bne_zero (count : Word) : (count != 0#16) = decide (count.toNat ≠ 0) := by
  rw [bne_zero_eq_decide, decide_eq_decide, ne_eq, BitVec.toNat_eq]
  rfl

/-! ## The transfer step (R177 to R181) -/

theorem ldBlockFlags_eq (old a v : Byte) (count : Word) : ldBlockFlags old a v count = ldBlockF old a v count := by
  have hsum : a + v = sum8 a v false := BitVec.add_def a v
  simp only [ldBlockFlags, ldBlockF, hsum, count_bne_zero, flagS, flagZ, flagC_eq_cy, packF_eq_fByte, bitAt_eq_bitOf]

/-- A transfer: the byte is stored, the pairs are stepped, F is set (R177). -/
def transferred (s : State) (up : Bool) : State :=
  let v := s.peek (hl s)
  let count := bc s - 1
  { s with
    mem := s.stored (de s) v
    regs := putBc (putDe (putHl { s.regs with f := ldBlockF s.regs.f s.regs.a v count } (moved up (hl s)))
      (moved up (de s))) count
    bus := .memWrite (de s) v :: .memRead (hl s) v :: s.bus }

theorem ldStep_eq (s : State) (up : Bool) : s.ldStep (dir up) = transferred s up := by
  simp only [State.ldStep, setHl_eq, setDe_eq, setBc_eq, hl_eq, de_eq, bc_eq, add_dir, ldBlockFlags_eq]
  rfl

theorem exec_ldBlock (rep up : Bool) (s : State) : exec (ldBlock rep up) s =
    .next (repeats (rep && decide (bc s - 1 ≠ 0)) s (ldBlock rep up) (transferred s up)) := by
  have hexec : exec (ldBlock rep up) s = .next (repeating rep (ldBlock rep up) State.ldAgain (s.ldStep (dir up))) := by
    cases rep <;> cases up <;> rfl
  have hagain : (transferred s up).ldAgain = decide (bc s - 1 ≠ 0) := by
    rw [State.ldAgain, bc_of_putBc rfl]
    exact bne_zero_eq_decide _
  have hextra : (cycleTable.getD (ldBlock rep up).row (0, 0)).2 = if rep then 5 else 0 := by
    cases rep <;> cases up <;> rfl
  rw [hexec, ldStep_eq, repeating_eq_repeats s (transferred s up) rep _ hextra rfl rfl rfl, hagain]

/-- Settles O38: the store of the transfer step leaves one byte changed. -/
theorem blockTransfer : Obligations.BlockTransfer :=
  fun rep up => ⟨by cases rep <;> cases up <;> rfl,
    fun s hwf => ⟨_, Bus.stored_write8 s (de s) _ hwf, exec_ldBlock rep up s⟩⟩

/-! ## The compare step (R182 to R186) -/

theorem sub_eq_diff8 (a v : Byte) : a - v = diff8 a v false := by
  rw [sub_eq_ofInt, diff8, Bool.toNat_false, Int.natCast_zero, Int.sub_zero]

/-- The half borrow: a subtraction is the addition of the complement, which carries where it does not borrow (R182). -/
theorem cpBlockHalf_eq (a v : Byte) : cpBlockHalf a v = decide (a.toNat % 16 < v.toNat % 16) := by
  have hcarry := bitAt_xor_sum8 a (~~~v) true (k := 4) (by decide)
  have hcomplement (r : Byte) : bitAt (a ^^^ v ^^^ r) 4 = !bitAt (a ^^^ ~~~v ^^^ r) 4 := by
    simp [bitAt]
  have := v.isLt
  rw [cpBlockHalf, hcomplement, sub_eq_diff8, ← sum8_not, Bool.not_false, hcarry, BitVec.toNat_not, ← decide_not,
    decide_eq_decide, Bool.toNat_true]
  omega

theorem cpBlockFlags_eq (old a v : Byte) (count : Word) : cpBlockFlags old a v count = cpBlockF old a v count := by
  have hborrow (r : Byte) (h : Bool) : r - BitVec.ofNat 8 h.toNat = diff8 r 0#8 h := by
    rw [sub_eq_ofInt, diff8]
    cases h <;> simp
  simp only [cpBlockFlags, cpBlockF, sub_eq_diff8 a, cpBlockHalf_eq, hborrow, count_bne_zero, beq_zero, flagC_eq_cy,
    packF_eq_fByte, bitAt_eq_bitOf, bitOf_seven]

/-- Z of the compare step is a match (R182). -/
theorem flagZ_cpBlockF (old a v : Byte) (count : Word) : flagZ (cpBlockF old a v count) = decide (a = v) := by
  have hmatch : (diff8 a v false).toNat = 0 ↔ a = v := by
    have := a.isLt; have := v.isLt
    rw [← sub_eq_diff8, BitVec.toNat_sub, BitVec.toNat_eq]
    omega
  simp only [flagZ, bitAt_eq_bitOf, cpBlockF, bitOf_fByte, hmatch]

/-- A comparison: the pairs are stepped, F is set (R182). -/
def compared (s : State) (up : Bool) : State :=
  let v := s.peek (hl s)
  let count := bc s - 1
  { s with
    regs := putBc (putHl { s.regs with f := cpBlockF s.regs.f s.regs.a v count } (moved up (hl s))) count
    bus := .memRead (hl s) v :: s.bus }

theorem cpStep_eq (s : State) (up : Bool) : s.cpStep (dir up) = compared s up := by
  simp only [State.cpStep, setHl_eq, setBc_eq, hl_eq, bc_eq, add_dir, cpBlockFlags_eq]
  rfl

theorem cpAgain_compared (s : State) (up : Bool) :
    (compared s up).cpAgain = (decide (bc s - 1 ≠ 0) && decide (s.regs.a ≠ s.peek (hl s))) := by
  have hz : flagZ (compared s up).regs.f = decide (s.regs.a = s.peek (hl s)) := flagZ_cpBlockF ..
  rw [State.cpAgain, hz, bc_of_putBc rfl, ← decide_not]
  exact congrArg (· && _) (bne_zero_eq_decide _)

/-- Settles O39: no match keeps the step running, as long as there is a count. -/
theorem blockCompare : Obligations.BlockCompare := by
  refine fun rep up => ⟨by cases rep <;> cases up <;> rfl, fun s => ?_⟩
  have hexec : exec (cpBlock rep up) s = .next (repeating rep (cpBlock rep up) State.cpAgain (s.cpStep (dir up))) := by
    cases rep <;> cases up <;> rfl
  have hextra : (cycleTable.getD (cpBlock rep up).row (0, 0)).2 = if rep then 5 else 0 := by
    cases rep <;> cases up <;> rfl
  rw [hexec, cpStep_eq, repeating_eq_repeats s (compared s up) rep _ hextra rfl rfl rfl, cpAgain_compared,
    ← Bool.and_assoc]
  rfl

/-! ## Ports (R54 to R56) -/

theorem findPeripheral_eq_device (ds : List Peripheral) (n : Nat) (p : Word) :
    findPeripheral ds n p = (device ds p).map fun q => (q.1 + n, q.2) := by
  induction ds generalizing n with
  | nil => rfl
  | cons d ds ih =>
    have hmatch : d.matchesPort p = true ↔ p &&& d.mask = d.pattern := beq_iff_eq
    simp only [findPeripheral, device, hmatch]
    split
    · simp
    · rw [ih, Option.map_map]
      congr 1
      funext q
      simp only [Function.comp_apply, Nat.add_assoc, Nat.add_comm 1]

theorem findPeripheral_zero (ds : List Peripheral) (p : Word) : findPeripheral ds 0 p = device ds p := by
  rw [findPeripheral_eq_device]
  exact Option.map_id'

theorem readServer_eq_reader (s : State) (p : Word) : s.readServer p = reader s p := by
  rw [State.readServer, findPeripheral_zero]
  rfl

theorem writeServer_eq_writer (s : State) (p : Word) : s.writeServer p = writer s p := by
  rw [State.writeServer, findPeripheral_zero]
  rfl

/-- `IORead`, its value and its effect (R55). -/
theorem input_eq (s : State) (p : Word) : input s p = (s.ioValue p, s.ioRead p) := by
  rw [input, State.ioValue, State.ioRead, readServer_eq_reader, drew_eq]
  cases reader s p with
  | none => rfl
  | some k =>
    rw [State.afterDraw_frame]
    rfl

/-! ## The block I/O steps (R187 to R196) -/

theorem ioBlockFlags_eq (v : Byte) (k : Nat) (b : Byte) : ioBlockFlags v k b = ioBlockF v k b := by
  simp only [ioBlockFlags, ioBlockF, packF_eq_fByte, bitAt_eq_bitOf, bitOf_seven, beq_zero, parity_eq_evenBits]

/-- A block I/O instruction executes under BLOCK_IO = z80 only, and goes back while B is not 0 (R97, R188). -/
theorem next_blockIo (s t : State) {i : Instr} {o : Byte} {op : State → State} (rep : Bool)
    (hi : i.recognized s.params = (s.params.blockIo == .z80) ∧ unknownEvent i = ⟨.ed, o⟩ ∧
      (cycleTable.getD i.row (0, 0)).2 = if rep then 5 else 0)
    (hop : op s = t) (hpc : t.pc = s.pc) (hbudget : t.budget = s.budget) (hparams : t.params = s.params) :
    Host.Outcome.next (s.ifRecognized i fun u => repeating rep i State.ioAgain (op u)) =
      orUnknown (s.params.blockIo == .z80) s .ed o (repeats (rep && decide (t.regs.b ≠ 0)) s i t) := by
  obtain ⟨hok, hevent, hextra⟩ := hi
  have hagain : t.ioAgain = decide (t.regs.b ≠ 0) := bne_zero_eq_decide _
  rw [State.ifRecognized, hok, orUnknown, State.raiseUnknown, hevent, hop,
    repeating_eq_repeats s t rep _ hextra hpc hbudget hparams, hagain]
  split <;> rfl

/-- `(C +- 1) mod 256` (R188). -/
theorem toNat_add_loByte_dir (c : Byte) (up : Bool) :
    (c + loByte (dir up)).toNat = (c.toNat + (if up then 1 else 255)) % 256 := by
  cases up <;> exact BitVec.toNat_add _ _

/-- A block input: the byte read is stored, HL and B are stepped, F is set (R188). -/
def inputStored (s : State) (up : Bool) : State :=
  let v := s.ioValue (bc s)
  let b := s.regs.b - 1
  let k := v.toNat + (s.regs.c.toNat + (if up then 1 else 255)) % 256
  { s.ioRead (bc s) with
    mem := s.stored (hl s) v
    regs := putHl { s.regs with b := b, f := ioBlockF v k b } (moved up (hl s))
    bus := .memWrite (hl s) v :: (s.ioRead (bc s)).bus }

theorem inStep_eq (s : State) (up : Bool) : s.inStep (dir up) = inputStored s up := by
  simp only [State.inStep, inputStored, setHl_eq, hl_eq, bc_eq, add_dir, ioBlockFlags_eq, toNat_add_loByte_dir]
  rw [State.ioRead_frame]
  rfl

theorem exec_inBlock (rep up : Bool) (s : State) : exec (inBlock rep up) s =
    orUnknown (s.params.blockIo == .z80) s .ed (blockOpcode rep up 2)
      (repeats (rep && decide (s.regs.b - 1 ≠ 0)) s (inBlock rep up) (inputStored s up)) := by
  have hexec : exec (inBlock rep up) s = .next (s.ifRecognized (inBlock rep up) fun u =>
      repeating rep (inBlock rep up) State.ioAgain (u.inStep (dir up))) := by
    cases rep <;> cases up <;> rfl
  have hframe : (inputStored s up).pc = s.pc ∧ (inputStored s up).budget = s.budget ∧
      (inputStored s up).params = s.params := by
    rw [inputStored, State.ioRead_frame]
    exact ⟨rfl, rfl, rfl⟩
  obtain ⟨hpc, hbudget, hparams⟩ := hframe
  rw [hexec]
  exact next_blockIo s (inputStored s up) rep (by cases rep <;> cases up <;> exact ⟨rfl, rfl, rfl⟩)
    (inStep_eq s up) hpc hbudget hparams

/-- Settles O40: reading a port changes nothing that the store looks at. -/
theorem blockInput : Obligations.BlockInput := by
  refine fun rep up => ⟨by cases rep <;> cases up <;> rfl, fun s hwf => ?_⟩
  rw [exec_inBlock, input_eq]
  exact ⟨_, Bus.stored_write8 s (hl s) _ hwf, rfl⟩

/-- A block output: the byte read is written to the port, HL and B are stepped, F is set (R188). -/
def outputRead (s : State) (up : Bool) : State :=
  let v := s.peek (hl s)
  let b := s.regs.b - 1
  let port := wordOf b s.regs.c
  let k := v.toNat + (low (moved up (hl s))).toNat
  { s with
    regs := putHl { s.regs with b := b, f := ioBlockF v k b } (moved up (hl s))
    bus := .ioWrite port v (writer s port) :: .memRead (hl s) v :: s.bus }

theorem outStep_eq (s : State) (up : Bool) : s.outStep (dir up) = outputRead s up := by
  simp only [State.outStep, outputRead, State.ioWrite, writeServer_eq_writer, setHl_eq, hl_eq, add_dir, ioBlockFlags_eq,
    loByte_eq_low, mkWord_eq_wordOf]
  rfl

/-- Settles O41: the port is named by B after its decrement. -/
theorem blockOutput : Obligations.BlockOutput := by
  refine fun rep up => ⟨by cases rep <;> cases up <;> rfl, fun s => ?_⟩
  have hexec : exec (outBlock rep up) s = .next (s.ifRecognized (outBlock rep up) fun u =>
      repeating rep (outBlock rep up) State.ioAgain (u.outStep (dir up))) := by
    cases rep <;> cases up <;> rfl
  rw [hexec]
  exact next_blockIo s (outputRead s up) rep (by cases rep <;> cases up <;> exact ⟨rfl, rfl, rfl⟩)
    (outStep_eq s up) rfl rfl rfl

end Sys2Proof.Blocks
end

section
/-! PROOFS. O42: a block copied by LDIR. One iteration moves one byte (`peek_iterated`) and leaves a state that is to
copy the rest (`Copying.next`); the statement follows by induction over the bytes still to be copied. -/

namespace Sys2Proof.BlockCopy

open Sys2Proof.Machine Sys2Proof.Claims Sys2Proof.Flags Sys2Proof.Operands Sys2Proof.HostActs Sys2Proof.Arith16
  Sys2Proof.Blocks

/-! ## Words -/

theorem wordOf_high_low (w : Word) : wordOf (high w) (low w) = w := by
  rw [← hiByte_eq_high, ← loByte_eq_low, ← mkWord_eq_wordOf, mkWord_hi_lo]

theorem add_one_add_ofNat (w : Word) (k : Nat) : w + 1 + BitVec.ofNat 16 k = w + BitVec.ofNat 16 (k + 1) := by
  rw [BitVec.ofNat_add, BitVec.add_comm (BitVec.ofNat 16 k), ← BitVec.add_assoc]
  rfl

theorem ofNat_succ_sub_one (n : Nat) : BitVec.ofNat 16 (n + 1) - 1 = BitVec.ofNat 16 n := by
  rw [BitVec.ofNat_add]
  exact BitVec.add_sub_cancel _ 1

theorem add_ofNat_succ_ne (w : Word) {k : Nat} (hk : k + 1 < 65536) : w + BitVec.ofNat 16 (k + 1) ≠ w := by
  intro h
  have hnat := congrArg BitVec.toNat h
  have := w.isLt
  rw [BitVec.toNat_add, BitVec.toNat_ofNat] at hnat
  omega

/-! ## One iteration -/

/-- The state in which LDIR runs: two bytes and two M1 fetches on, the form's 16 cycles charged (R81, R256). -/
def ldirFetched (s : State) : State :=
  { s with pc := s.pc + 2, r := countedR s.r 2, bus := fetchLog s 2, budget := s.budget - 16 }

theorem afterFetch_ldir {s : State} (hcost : s.params.cycleCost = []) : s.afterFetch ⟨.ldir, 0⟩ = ldirFetched s := by
  have hbase : Instr.ldir.baseCost s.params = 16 := by
    rw [Instr.baseCost, Params.costOf, hcost]
    rfl
  rw [Fetching.fetchAdvances]
  simp only [hbase]
  rfl

/-- The state after one iteration, at a boundary; `again` sends PC back at 5 more cycles (R176, R180). -/
def iterated (s : State) (again : Bool) : State :=
  (repeats again (ldirFetched s) .ldir (transferred (ldirFetched s) true)).atBoundary

theorem iterated_frame (s : State) (again : Bool) :
    iterated s again = { s with
      pc := if again then s.pc else s.pc + 2
      r := countedR s.r 2
      budget := if again then extra (ldirFetched s) .ldir 5 else s.budget - 16
      regs := (transferred (ldirFetched s) true).regs
      mem := s.stored (de s) (s.peek (hl s))
      bus := (transferred (ldirFetched s) true).bus
      xySel := .hl, disp := 0x00#8, pfx := .none } := by
  cases again with
  | false => rfl
  | true =>
    have hpc : s.pc + 2 - 2 = s.pc := BitVec.add_sub_cancel _ _
    rw [iterated, repeats, if_pos rfl, ldirFetched, hpc]
    rfl

section
variable {s : State} {n : Nat}

theorem budget_iterated (hcost : s.params.cycleCost = []) (again : Bool) :
    (iterated s again).budget = s.budget - if again then 21 else 16 := by
  rw [iterated_frame]
  cases again with
  | false => rfl
  | true =>
    have hextra : extra (ldirFetched s) .ldir 5 = s.budget - 16 - 5 := if_pos hcost
    simp only [hextra, if_true]
    omega

theorem hl_iterated (again : Bool) : hl (iterated s again) = hl s + 1 := by
  rw [iterated_frame]
  exact wordOf_high_low _

theorem de_iterated (again : Bool) : de (iterated s again) = de s + 1 := by
  rw [iterated_frame]
  exact wordOf_high_low _

theorem bc_iterated (again : Bool) : bc (iterated s again) = bc s - 1 := by
  rw [iterated_frame]
  exact wordOf_high_low _

/-- PV, H and N of the transfer step (R177). -/
theorem flags_iterated (again : Bool) :
    let f := (iterated s again).regs.f
    bitOf f 2 = decide ((bc s - 1).toNat ≠ 0) ∧ bitOf f 4 = false ∧ bitOf f 1 = false := by
  rw [iterated_frame]
  obtain ⟨-, -, -, hh, -, hpv, hn, -⟩ := bitOf_fByte ..
  exact ⟨hpv, hh, hn⟩

theorem peek_iterated (hwf : Memory.wf s.mem = true) (hw : writable s (de s) = true) (again : Bool) (a : Word) :
    (iterated s again).peek a = if a = de s then s.peek (hl s) else s.peek a := by
  obtain ⟨-, hpeek⟩ := Bus.stored_write8 s (de s) (s.peek (hl s)) hwf
  rw [iterated_frame]
  simp only [hw, and_true] at hpeek
  exact hpeek a

/-! ## Bytes still to be copied -/

/-- A run that is to copy `n + 1` bytes by LDIR: what O42 assumes, with `n` iterations after the next one. -/
structure Copying (s : State) (n : Nat) : Prop where
  wf       : Memory.wf s.mem = true
  short    : n < 32768
  run      : inRun s
  boundary : s.boundary = true
  running  : s.halted = false
  cost     : s.params.cycleCost = []
  loop     : s.phase = .untilHalt ∨ ((21 * n : Nat) : Int) < s.budget
  low      : -2147483648 + ((21 * n + 16 : Nat) : Int) ≤ s.budget
  high     : s.budget ≤ 2147483647
  opcode   : s.peek s.pc = 0xED#8 ∧ s.peek (s.pc + 1) = 0xB0#8
  count    : bc s = BitVec.ofNat 16 (n + 1)
  target   : ∀ k, k < n + 1 → writable s (de s + BitVec.ofNat 16 k) = true
  code     : ∀ k, k < n + 1 → de s + BitVec.ofNat 16 k ≠ s.pc ∧ de s + BitVec.ofNat 16 k ≠ s.pc + 1
  source   : ∀ j k, j < n + 1 → k < n + 1 → hl s + BitVec.ofNat 16 j ≠ de s + BitVec.ofNat 16 k

namespace Copying

theorem count_sub_one (h : Copying s n) : bc s - 1 = BitVec.ofNat 16 n := by
  rw [h.count, ofNat_succ_sub_one]

theorem peek (h : Copying s n) (again : Bool) (a : Word) :
    (iterated s again).peek a = if a = de s then s.peek (hl s) else s.peek a :=
  peek_iterated h.wf (by simpa using h.target 0 n.succ_pos) again a

theorem exec_fetched (h : Copying s n) : exec .ldir (ldirFetched s) =
    .next (repeats (decide (n ≠ 0)) (ldirFetched s) .ldir (transferred (ldirFetched s) true)) := by
  have hcount : bc (ldirFetched s) - 1 = BitVec.ofNat 16 n := h.count_sub_one
  have hagain : decide (BitVec.ofNat 16 n ≠ 0) = decide (n ≠ 0) := by
    have hzero : (0 : Word).toNat = 0 := rfl
    have := h.short
    rw [decide_eq_decide, ne_eq, BitVec.toNat_eq, BitVec.toNat_ofNat, hzero]
    omega
  rw [← hagain, ← hcount]
  exact exec_ldBlock true true (ldirFetched s)

/-- The next step is one iteration: the budget goes on to the next byte and stays in range. -/
theorem step_eq (h : Copying s n) : step s = .next (iterated s (decide (n ≠ 0))) := by
  have hready : Ready s :=
    ⟨h.run, h.boundary, h.running, h.loop.imp_right fun hbudget => by omega⟩
  have hdecode : decode [s.peek s.pc, s.peek (s.pc + 1), s.peek (s.pc + 2), s.peek (s.pc + 3)] = .ok .ldir := by
    obtain ⟨hfirst, hsecond⟩ := h.opcode
    rw [hfirst, hsecond]
    rfl
  have hbudget : budgetInRange (iterated s (decide (n ≠ 0))).budget = true := by
    have := h.low; have := h.high
    rw [budgetInRange_iff, InRange, budget_iterated h.cost]
    simp only [decide_eq_true_eq]
    split <;> omega
  rw [Stepping.stepRunsDecodedInstruction.1 s .ldir hready hdecode, afterFetch_ldir h.cost, h.exec_fetched]
  exact (Stepping.finish_boundary rfl _).trans (if_pos hbudget)

theorem target_ne_code (h : Copying s n) : de s ≠ s.pc ∧ de s ≠ s.pc + 1 := by
  simpa using h.code 0 n.succ_pos

theorem source_ne_target (h : Copying s n) {j : Nat} (hj : j < n + 1) : hl s + BitVec.ofNat 16 j ≠ de s := by
  simpa using h.source j 0 hj n.succ_pos

/-- The rest is still to be copied: the byte moved is none of the instruction's. -/
theorem next (h : Copying s (n + 1)) : Copying (iterated s true) n := by
  have hbudget : (iterated s true).budget = s.budget - 21 := budget_iterated h.cost true
  have hpc : (iterated s true).pc = s.pc := by rw [iterated_frame, if_pos rfl]
  have htarget (k : Nat) : de (iterated s true) + BitVec.ofNat 16 k = de s + BitVec.ofNat 16 (k + 1) := by
    rw [de_iterated, add_one_add_ofNat]
  have hsource (j : Nat) : hl (iterated s true) + BitVec.ofNat 16 j = hl s + BitVec.ofNat 16 (j + 1) := by
    rw [hl_iterated, add_one_add_ofNat]
  obtain ⟨hpc0, hpc1⟩ := h.target_ne_code
  obtain ⟨hfirst, hsecond⟩ := h.opcode
  have hshort := h.short
  constructor
  case wf => exact s.wf_stored (de s) (s.peek (hl s)) h.wf
  case short => omega
  case run => exact h.run
  case boundary => rfl
  case running => exact h.running
  case cost => exact h.cost
  case loop => exact h.loop.imp_right fun hloop => by rw [hbudget]; omega
  case low =>
    have := h.low
    rw [hbudget]
    omega
  case high =>
    have := h.high
    rw [hbudget]
    omega
  case opcode =>
    rw [hpc, h.peek, h.peek, if_neg hpc0.symm, if_neg hpc1.symm]
    exact ⟨hfirst, hsecond⟩
  case count => rw [bc_iterated, h.count_sub_one]
  case target =>
    intro k hk
    rw [htarget]
    exact h.target (k + 1) (by omega)
  case code =>
    intro k hk
    rw [htarget, hpc]
    exact h.code (k + 1) (by omega)
  case source =>
    intro j k hj hk
    rw [htarget, hsource]
    exact h.source (j + 1) (k + 1) (by omega) (by omega)

end Copying

/-! ## Bytes copied -/

/-- `n` bytes of the block at HL stand in the block at DE, no other byte is changed, HL and DE are past the blocks. -/
structure Copied (s : State) (n : Nat) (t : State) : Prop where
  phase : t.phase = s.phase
  endHl : hl t = hl s + BitVec.ofNat 16 n
  endDe : de t = de s + BitVec.ofNat 16 n
  block : ∀ k, k < n → t.peek (de s + BitVec.ofNat 16 k) = s.peek (hl s + BitVec.ofNat 16 k)
  rest  : ∀ a : Word, (∀ k, k < n → a ≠ de s + BitVec.ofNat 16 k) → t.peek a = s.peek a

theorem Copied.refl (s : State) : Copied s 0 s :=
  ⟨rfl, (BitVec.add_zero _).symm, (BitVec.add_zero _).symm, fun _ hk => absurd hk (Nat.not_lt_zero _), fun _ _ => rfl⟩

/-- The first byte is moved by an iteration, and no later one reads or writes where it was moved to. -/
theorem Copied.cons {t : State} {again : Bool} {m : Nat} (h : Copying s n) (hm : m ≤ n)
    (ht : Copied (iterated s again) m t) : Copied s (m + 1) t := by
  obtain ⟨hphase, hhl, hde, hblock, hrest⟩ := ht
  have hshort := h.short
  simp only [hl_iterated, de_iterated, add_one_add_ofNat, h.peek] at hhl hde hblock hrest
  refine ⟨?phase, hhl, hde, fun k hk => ?block, fun a ha => ?rest⟩
  case phase => rw [hphase, iterated_frame]
  case block =>
    cases k with
    | zero =>
      have hfirst := hrest (de s) fun k hk => (add_ofNat_succ_ne (de s) (by omega)).symm
      simpa using hfirst
    | succ k => rw [hblock k (by omega), if_neg (h.source_ne_target (by omega))]
  case rest =>
    have hne : a ≠ de s := by simpa using ha 0 m.succ_pos
    rw [hrest a fun k hk => ha (k + 1) (by omega), if_neg hne]

/-- The state after the last iteration: PC past the LDIR, BC, PV, H and N clear, and what the iterations cost. -/
structure Ended (s t : State) (cost : Nat) : Prop where
  pc     : t.pc = s.pc + 2
  endBc  : bc t = 0
  flags  : bitOf t.regs.f 2 = false ∧ bitOf t.regs.f 4 = false ∧ bitOf t.regs.f 1 = false
  budget : t.budget = s.budget - (cost : Nat)

theorem Ended.last (h : Copying s 0) : Ended s (iterated s false) 16 := by
  have hcount : bc s - 1 = 0 := h.count_sub_one
  obtain ⟨hpv, hh, hn⟩ := flags_iterated (s := s) false
  refine ⟨by rw [iterated_frame]; rfl, by rw [bc_iterated, hcount], ⟨?_, hh, hn⟩, budget_iterated h.cost false⟩
  rw [hpv, hcount]
  rfl

theorem Ended.cons {t : State} {cost : Nat} (h : Copying s n) (ht : Ended (iterated s true) t cost) :
    Ended s t (21 + cost) := by
  obtain ⟨hpc, hbc, hflags, hbudget⟩ := ht
  rw [budget_iterated h.cost, if_pos rfl] at hbudget
  refine ⟨by rw [hpc, iterated_frame, if_pos rfl], hbc, hflags, ?_⟩
  omega

/-! ## The whole run -/

theorem run_succ {s t : core.State} (h : core.step s = .next t) (k : Nat) : core.run (k + 1) s = core.run k t := by
  rw [Host.Core.run, h]

/-- All iterations, the last one without going back. -/
theorem run_of_copying (h : Copying s n) :
    ∃ t : State, core.run (n + 1) s = .next t ∧ Copied s (n + 1) t ∧ Ended s t (21 * n + 16) := by
  induction n generalizing s with
  | zero => exact ⟨iterated s false, run_succ h.step_eq 0, (Copied.refl _).cons h (Nat.le_refl _), Ended.last h⟩
  | succ n ih =>
    obtain ⟨t, hrun, hcopied, hended⟩ := ih h.next
    have hcost : 21 + (21 * n + 16) = 21 * (n + 1) + 16 := by omega
    exact ⟨t, (run_succ h.step_eq _).trans hrun, hcopied.cons h (Nat.le_refl _), hcost ▸ hended.cons h⟩

end

/-- Settles O42: the budget of either mode lasts for all iterations. -/
theorem ldirCopiesBlock : Obligations.LdirCopiesBlock := by
  intro s n hpos hle hwf hbudget hhigh hboundary hhalted hcost hfirst hsecond hcount htarget hcode hsource
  obtain ⟨n, rfl⟩ : ∃ m, n = m + 1 := ⟨n - 1, by omega⟩
  rw [Nat.add_sub_cancel] at hbudget ⊢
  have hcopying : Copying s n := by
    refine ⟨hwf, by omega, ?run, hboundary, hhalted, hcost, ?loop, ?low, hhigh, ⟨hfirst, hsecond⟩, hcount, htarget,
      hcode, hsource⟩
    case run => rcases hbudget with ⟨hphase, -⟩ | ⟨hphase, -⟩ <;> simp [inRun, hphase]
    case loop => exact hbudget.imp And.left And.right
    case low => rcases hbudget with ⟨-, hbudget⟩ | ⟨-, hbudget⟩ <;> omega
  obtain ⟨t, hrun, ⟨hphase, hhl, hde, hblock, hrest⟩, ⟨hpc, hbc, ⟨hpv, hh, hn⟩, hbudget⟩⟩ := run_of_copying hcopying
  exact ⟨t, hrun, hphase, hpc, hbc, hhl, hde, hpv, hh, hn, hbudget, hblock, hrest⟩

end Sys2Proof.BlockCopy
end

section
/-! PROOFS. O44 and O45: calls, restarts and returns. A call is a PUSH of PC and a return is a POP into PC, by the rules of
the stack; where a condition guards one, it is taken with its conditional extra or not at all (`when_chargeExtra`). -/

namespace Sys2Proof.Calling

open Sys2Proof.Machine Sys2Proof.Claims Sys2Proof.Jumping Sys2Proof.Operands Sys2Proof.Encoding Sys2Proof.HostActs
  Sys2Proof.Loads Sys2Proof.MemoryStores

/-- The conditional extra, charged to a state that has the budget and the parameters of the first one (R256). -/
theorem chargeExtra_eq {s t : State} {i : Instr} {n : Nat} (hbudget : t.budget = s.budget)
    (hparams : t.params = s.params) (hextra : (cycleTable.getD i.row (0, 0)).2 = n) :
    t.chargeExtra i = { t with budget := extra s i n } := by
  rw [extra_eq s hextra, ← hbudget, ← hparams]
  rfl

/-- An operation that a condition guards, with its conditional extra where the condition holds (R204, R207). -/
theorem when_chargeExtra (s : State) (cc : Cond) {op : State → State} {i : Instr} {n : Nat}
    (hbudget : (op s).budget = s.budget) (hparams : (op s).params = s.params)
    (hextra : (cycleTable.getD i.row (0, 0)).2 = n) :
    s.when (s.cond cc) (fun t => (op t).chargeExtra i) =
      if condTrue s.regs.f cc then { op s with budget := extra s i n } else s := by
  rw [← chargeExtra_eq hbudget hparams hextra, cond_eq_condTrue]
  rfl

/-! ## CALL and RST (R203 to R205) -/

/-- A call pushes PC and jumps, whatever it charges. -/
theorem next_call (s : State) (target : Word) (budget : Int) (hwf : Memory.wf s.mem = true) :
    ∃ t, Pushed s t s.pc ∧ Host.Outcome.next { s.call target with budget := budget } =
      (.next { t with pc := target, budget := budget } : Answer) :=
  ⟨s.push16 s.pc, pushed_push16 s s.pc hwf, rfl⟩

theorem exec_callCcNn (s : State) (cc : Cond) (nn : Word) : exec (.callCcNn cc nn) s = .next
    (if condTrue s.regs.f cc then { s.call nn with budget := extra s (.callCcNn cc nn) 7 } else s) :=
  congrArg _ (when_chargeExtra s cc (op := (·.call nn)) rfl rfl rfl)

theorem exec_rst (s : State) (t : BitVec 3) :
    exec (.rst t) s = .next { s.call (BitVec.ofNat 16 (8 * t.toNat)) with budget := s.budget } := by
  rw [Nat.mul_comm]
  rfl

theorem decode_callNn (lo hi : Byte) : decode [0xCD#8, lo, hi] = .ok (.callNn (wordOf hi lo)) := by
  rw [← mkWord_eq_wordOf]
  rfl

theorem decode_callCcNn (cc : Cond) (lo hi : Byte) :
    decode [BitVec.ofNat 8 (0xC4 + 8 * condNo cc), lo, hi] = .ok (.callCcNn cc (wordOf hi lo)) := by
  rw [← mkWord_eq_wordOf]
  cases cc <;> rfl

theorem encodes_rst : ∀ t : BitVec 3, Encodes (.rst t) [BitVec.ofNat 8 (0xC7 + 8 * t.toNat)] := by
  decide

/-- Settles O44: each is a PUSH of PC and a jump, a CALL cc where its condition holds. -/
theorem callsAndRestarts : Obligations.CallsAndRestarts := by
  refine fun s hwf => ⟨fun lo hi => ⟨decode_callNn lo hi, fun cc => decode_callCcNn cc lo hi⟩,
    fun nn => ⟨next_call s nn s.budget hwf, fun cc => ?callCc⟩, fun t => ⟨decode_of_encodes (encodes_rst t), ?rst⟩⟩
  case callCc =>
    rw [exec_callCcNn]
    split
    · exact next_call s nn _ hwf
    · rfl
  case rst =>
    rw [exec_rst]
    exact next_call s _ _ hwf

/-! ## RET, RETN and RETI (R206 to R209) -/

/-- A return is a POP into PC. -/
theorem ret_eq (s : State) : s.ret = { popped s with pc := word s s.sp } := by
  rw [State.ret, State.top16, peek16_eq_word]
  rfl

/-- A return from an interrupt is a return that copies IFF1 into IFF0. -/
theorem returnFromInt_eq (s : State) : s.returnFromInt = { popped s with pc := word s s.sp, iff0 := s.iff1 } := by
  have hret : s.returnFromInt = { s.ret with iff0 := s.iff1 } := rfl
  rw [hret, ret_eq]

theorem exec_retCc (s : State) (cc : Cond) : exec (.retCc cc) s = .next
    (if condTrue s.regs.f cc then { popped s with pc := word s s.sp, budget := extra s (.retCc cc) 6 } else s) := by
  have hexec : exec (.retCc cc) s = .next (s.when (s.cond cc) (fun t => t.ret.chargeExtra (.retCc cc))) := rfl
  rw [hexec, when_chargeExtra (n := 6) s cc rfl rfl rfl, ret_eq]

theorem encodes_retnMirror : ∀ y : BitVec 3, y ≠ 0 → y ≠ 1 →
    Encodes (.retnMirror y) [0xED#8, BitVec.ofNat 8 (0x45 + 8 * y.toNat)] := by
  decide

theorem unknownEvent_retnMirror : ∀ y : BitVec 3,
    unknownEvent (.retnMirror y) = ⟨.ed, BitVec.ofNat 8 (0x45 + 8 * y.toNat)⟩ := by
  decide

theorem exec_retnMirror (s : State) (y : BitVec 3) :
    exec (.retnMirror y) s = orUnknown (undoc s) s .ed (BitVec.ofNat 8 (0x45 + 8 * y.toNat))
      { popped s with pc := word s s.sp, iff0 := s.iff1 } := by
  have hexec : exec (.retnMirror y) s = .next (s.ifRecognized (.retnMirror y) State.returnFromInt) := rfl
  rw [hexec, ifRecognized_eq_orUnknown _ rfl (unknownEvent_retnMirror y), returnFromInt_eq]

/-- Settles O45: each is a POP into PC, a RET cc where its condition holds. -/
theorem returns : Obligations.Returns := fun s =>
  have hretInt := congrArg Host.Outcome.next (returnFromInt_eq s)
  ⟨rfl, congrArg _ (ret_eq s), fun cc => ⟨by cases cc <;> rfl, exec_retCc s cc⟩, rfl, hretInt, rfl, hretInt,
    fun y => ⟨fun hy hy' => decode_of_encodes (encodes_retnMirror y hy hy'), exec_retnMirror s y⟩⟩

end Sys2Proof.Calling
end

section
/-! PROOFS. O46: the port instructions. An input and an output of the rules are the model's (`input_eq`, `output_eq`). Reading a
port changes no register, so what an input writes goes to the registers as they were before it. -/

namespace Sys2Proof.Ports

open Sys2Proof.Machine Sys2Proof.Claims Sys2Proof.Operands Sys2Proof.HostActs Sys2Proof.Fields
  Sys2Proof.Loads Sys2Proof.Blocks

theorem regs_ioRead (s : State) (p : Word) : (s.ioRead p).regs = s.regs := by
  rw [State.ioRead_frame]

/-- `IOWrite` (R56). -/
theorem output_eq (s : State) (p : Word) (v : Byte) : output s p v = s.ioWrite p v := by
  rw [State.ioWrite, writeServer_eq_writer]
  rfl

/-! ## IN (R210, R212, R213) -/

theorem inputA_eq (s : State) (n : Byte) :
    s.inputA n = { (input s (wordOf s.regs.a n)).2 with
      regs := { s.regs with a := (input s (wordOf s.regs.a n)).1 } } := by
  simp only [State.inputA, State.setA, regs_ioRead, input_eq, mkWord_eq_wordOf]

theorem inputBc_eq (s : State) :
    s.inputBc = { (input s (bc s)).2 with
      regs := { s.regs with f := resultF (input s (bc s)).1 false (cy s.regs.f) } } := by
  simp only [State.inputBc, State.setF, regs_ioRead, input_eq, bc_eq, inFlags_eq]

/-- The byte goes to the register after the flags are set. -/
theorem exec_inRC (s : State) (r : Reg8) : exec (.inRC r) s = .next { (input s (bc s)).2 with
    regs := put { s.regs with f := resultF (input s (bc s)).1 false (cy s.regs.f) } r (input s (bc s)).1 } := by
  have hexec : exec (.inRC r) s = .next (s.inputBc.setR r (s.ioValue s.bc)) := rfl
  have hvalue : s.ioValue s.bc = (input s (bc s)).1 := by rw [input_eq, bc_eq]
  rw [hexec, hvalue, setR_eq_put, inputBc_eq]

theorem exec_inC (s : State) : exec .inC s = orUnknown (undoc s) s .ed 0x70#8 { (input s (bc s)).2 with
    regs := { s.regs with f := resultF (input s (bc s)).1 false (cy s.regs.f) } } := by
  rw [← inputBc_eq]
  exact ifRecognized_eq_orUnknown State.inputBc rfl rfl

/-! ## OUT (R211, R214, R215) -/

theorem exec_outNA (s : State) (n : Byte) :
    exec (.outNA n) s = .next (output s (wordOf s.regs.a n) s.regs.a) := by
  rw [output_eq, ← mkWord_eq_wordOf]
  rfl

theorem exec_outCR (s : State) (r : Reg8) : exec (.outCR r) s = .next (output s (bc s) (get s.regs r)) := by
  rw [output_eq, ← bc_eq, ← getR_eq_get]
  rfl

theorem exec_outC0 (s : State) : exec .outC0 s = orUnknown (undoc s) s .ed 0x71#8 (output s (bc s) 0#8) := by
  rw [output_eq, ← bc_eq]
  exact ifRecognized_eq_orUnknown (fun t => t.ioWrite t.bc 0#8) rfl rfl

/-- Settles O46: each is one read of a port or one write to it. -/
theorem portInstructions : Obligations.PortInstructions := fun s =>
  ⟨fun n => ⟨rfl, rfl, congrArg _ (inputA_eq s n), exec_outNA s n⟩,
    ⟨fun r => ⟨by cases r <;> rfl, exec_inRC s r⟩, rfl, exec_inC s⟩,
    fun r => ⟨by cases r <;> rfl, exec_outCR s r⟩, rfl, exec_outC0 s⟩

end Sys2Proof.Ports
end


section
/-! PROOFS. O5: the costs. The cost of a decoded instruction hangs on its row alone, so no operand byte matters to it, and with
the operand bytes at 0 each table of R256 is looked at one opcode at a time. -/

namespace Sys2Proof.Costs

open Sys2Proof.Claims

/-- The form's default cost of what the decoder answers. -/
def decodedCost : Decoded → Nat
  | .ok i => i.baseCost Params.default
  | .error _ => 0

/-! ## No operand byte matters -/

theorem row_aluImm (y : BitVec 3) (n n' : Byte) : (aluImm y n).row = (aluImm y n').row := by
  unfold aluImm
  split <;> rfl

theorem row_aluMXy (x : Idx) (y : BitVec 3) (d d' : Byte) : (aluMXy x y d).row = (aluMXy x y d').row := by
  unfold aluMXy
  split <;> rfl

theorem row_shiftMXy (x : Idx) (d d' : Byte) (y : BitVec 3) : (shiftMXy x d y).row = (shiftMXy x d' y).row := by
  unfold shiftMXy
  split <;> rfl

theorem row_shiftMXyR (x : Idx) (d d' : Byte) (y : BitVec 3) (s : Reg8) :
    (shiftMXyR x d y s).row = (shiftMXyR x d' y s).row := by
  unfold shiftMXyR
  split <;> rfl

theorem baseCost_of_row {i j : Instr} (h : i.row = j.row) (p : Params) : i.baseCost p = j.baseCost p := by
  rw [Instr.baseCost, Instr.baseCost, h]

theorem cost_decodeBase0 (op b c d : Byte) :
    decodedCost (decodeBase0 op [b, c, d]) = decodedCost (decodeBase0 op [0, 0, 0]) := by
  unfold decodeBase0
  split
  case h_1 | h_2 | h_3 | h_7 => split <;> rfl
  all_goals rfl

theorem cost_decodeBase3 (op b c d : Byte) :
    decodedCost (decodeBase3 op [b, c, d]) = decodedCost (decodeBase3 op [0, 0, 0]) := by
  unfold decodeBase3
  split
  case h_4 => split <;> rfl
  case h_6 =>
    split
    · split <;> rfl
    · rfl
  case h_7 => exact baseCost_of_row (row_aluImm _ _ _) _
  all_goals rfl

theorem cost_decodeBase (op b c d : Byte) :
    decodedCost (decodeBase op [b, c, d]) = decodedCost (decodeBase op [0, 0, 0]) := by
  unfold decodeBase
  split
  · exact cost_decodeBase0 op b c d
  · rfl
  · rfl
  · exact cost_decodeBase3 op b c d

theorem cost_decodeEd (op c d : Byte) : decodedCost (decodeEd op [c, d]) = decodedCost (decodeEd op [0, 0]) := by
  unfold decodeEd decodeEd1
  split
  · split
    · split
      case h_4 => split <;> rfl
      all_goals rfl
    · rfl
  · rfl

theorem cost_decodeXyOp (x : Idx) (op c d : Byte) :
    decodedCost (decodeXyOp x op [c, d]) = decodedCost (decodeXyOp x op [0, 0]) := by
  unfold decodeXyOp
  split
  · split
    case h_3 => rfl
    all_goals split <;> rfl
  · split <;> rfl
  · split
    · exact baseCost_of_row (row_aluMXy x _ _ _) _
    · rfl
  · rfl

theorem cost_decodeXy (x : Idx) (op c d : Byte) (hcb : op ≠ 0xCB#8) :
    decodedCost (decodeXy x [op, c, d]) = decodedCost (decodeXy x [op, 0, 0]) := by
  simp only [decodeXy, beq_eq_false_iff_ne.2 hcb, Bool.false_eq_true, if_false]
  split
  · rfl
  · split
    · rfl
    · split
      · exact cost_decodeXyOp x op c d
      · rfl

theorem row_decodeXyCb (x : Idx) (d d' op : Byte) : (decodeXyCb x d op).row = (decodeXyCb x d' op).row := by
  unfold decodeXyCb
  split <;> split
  · exact row_shiftMXyR x d d' _ _
  · rfl
  · rfl
  · rfl
  · exact row_shiftMXy x d d' _
  · rfl
  · rfl
  · rfl

/-! ## The tables of R256, one opcode at a time -/

theorem baseCosts : ∀ op : Byte, isPrefixByte op = false → decodedCost (decodeBase op [0, 0, 0]) = baseCostOf op := by
  decide +kernel

theorem cbCosts : ∀ op : Byte, (decodeCb op).baseCost Params.default = cbCostOf op := by
  decide +kernel

theorem edCosts : ∀ op : Byte, decodedCost (decodeEd op [0, 0]) = edCostOf op := by
  decide +kernel

theorem xyCosts (x : Idx) : ∀ op : Byte, op ≠ 0xCB#8 →
    decodedCost (decodeXy x [op, 0, 0]) = if affected op then xyCostOf op else 0 := by
  cases x <;> decide +kernel

theorem xyCbCosts (x : Idx) : ∀ op : Byte, (decodeXyCb x 0 op).baseCost Params.default = xyCbCostOf op := by
  cases x <;> decide +kernel

/-! ## Any four bytes -/

theorem baseCost_of_decode {bs : List Byte} {i : Instr} (h : decode bs = .ok i) :
    i.baseCost Params.default = decodedCost (decode bs) := by
  rw [h]
  rfl

/-- Settles O5: the operand bytes are put to 0, and the table of the form is looked up. -/
theorem costsOfTheForms : Obligations.CostsOfTheForms := by
  refine ⟨fun a b c d i h hcb hed hdd hfd => ?base, fun b c d i h => ?cb, fun b c d i h => ?ed,
    fun x b c d i h hcb => ?xy, fun x c d i h => ?xyCb, fun _ => rfl, fun _ _ => rfl, fun _ _ => rfl, fun _ => rfl,
    fun _ _ => rfl, fun up => by cases up <;> exact ⟨rfl, rfl, rfl, rfl⟩⟩
  case base =>
    have hprefix : isPrefixByte a = false := by simp [isPrefixByte, hcb, hed, hdd, hfd]
    rw [baseCost_of_decode h, FetchCounts.decode_of_not_prefix a _ hprefix, cost_decodeBase, baseCosts a hprefix]
  case cb => exact (baseCost_of_decode h).trans (cbCosts b)
  case ed => exact (baseCost_of_decode h).trans ((cost_decodeEd b c d).trans (edCosts b))
  case xy =>
    rw [baseCost_of_decode h, Stepping.decode_prefixByte, cost_decodeXy x b c d hcb, xyCosts x b hcb]
  case xyCb =>
    rw [baseCost_of_decode h, Stepping.decode_prefixByte]
    exact (baseCost_of_row (row_decodeXyCb x c 0 d) _).trans (xyCbCosts x d)

end Sys2Proof.Costs
end

section
/-! PROOFS. O47: CPU control. Each instruction writes the fields it names; a mirror of IM is one of the forms that execute with
the undocumented ones only. -/

namespace Sys2Proof.CpuControl

open Sys2Proof.Machine Sys2Proof.Claims Sys2Proof.Operands

theorem unknownEvent_im0Mirror : ∀ y : BitVec 3,
    unknownEvent (.im0Mirror y) = ⟨.ed, BitVec.ofNat 8 (0x46 + 8 * y.toNat)⟩ := by
  decide

/-- A mirror of IM sets the mode where the undocumented forms execute (R220 to R222). -/
theorem exec_imMirror {i : Instr} {s : State} {o : Byte} (mode : IntMode)
    (hexec : exec i s = .next (s.ifRecognized i fun t => { t with im := mode }))
    (hok : i.recognized s.params = undoc s) (hevent : unknownEvent i = ⟨.ed, o⟩) :
    exec i s = orUnknown (undoc s) s .ed o { s with im := mode } :=
  hexec.trans (ifRecognized_eq_orUnknown _ hok hevent)

/-- Settles O47: each writes one field or two, the mirrors where they are recognized. -/
theorem cpuControlInstructions : Obligations.CpuControlInstructions :=
  ⟨rfl, rfl, rfl, rfl, rfl, rfl, rfl, rfl, rfl, rfl, rfl, rfl, fun _ => ⟨rfl, rfl, rfl, rfl, rfl, rfl, rfl,
    fun y => exec_imMirror .im0 rfl rfl (unknownEvent_im0Mirror y), exec_imMirror .im1 rfl rfl rfl,
    exec_imMirror .im2 rfl rfl rfl⟩⟩

end Sys2Proof.CpuControl
end

section
/-! PROOFS. O10, O11, O12, O49, O50 and O54: what a step can answer. Every instruction completes and the four bytes at PC always
hold one (`decodeNext_ok`), so that inside a run only the tests of the budget refuse (`instrStep_refusesOnly`). -/

namespace Sys2Proof.RunLoop

open Sys2Proof.Machine Sys2Proof.Claims Sys2Proof.Effects Sys2Proof.Invariant Sys2Proof.Stepping

/-! ## The bytes at PC hold an instruction -/

theorem decode_four (a b c d : Byte) : ∃ i, decode [a, b, c, d] = .ok i := by
  have hfacts := FetchCounts.facts_decode_of_settings (FetchCounts.switchesOf_mem_settings Params.default) a b c d
  cases h : decode [a, b, c, d] with
  | ok i => exact ⟨i, rfl⟩
  | error e => rw [h] at hfacts; cases hfacts

/-- Bytes after the end of an instruction do not matter, unless it is a CB, ED, DD or FD byte alone (R83). -/
theorem decode_append {bs : List Byte} {i : Instr} (h : decode bs = .ok i) (hi : i.isPrefix = false) (more : List Byte) :
    decode (bs ++ more) = .ok i := by
  obtain ⟨operands, rest, rfl, -, hmore⟩ := Encoding.reads_decode bs i h
  rw [List.append_assoc]
  refine hmore ?_ (rest ++ more)
  rintro (rfl | rfl | rfl | rfl) <;> cases hi

/-- A DD or FD byte and the opcode it belongs to (R86). -/
theorem decode_taken (x : Idx) {o : Byte} (h : affected o = true ∨ o = 0xCB#8) (b c d : Byte) :
    ∃ i, decode [prefixByte x, o, b, c, d] = .ok i := by
  obtain ⟨i, hi⟩ := decode_four (prefixByte x) o b c
  obtain ⟨-, -, -, hprefix, -⟩ := FetchCounts.lengthAndFetchCounts _ _ _ _ i hi
  have halone : prefixAlone (prefixByte x) o = false := by
    rcases h with h | h <;> simp [prefixAlone, h]
  exact ⟨i, decode_append hi (hprefix.trans halone) [d]⟩

theorem decode_selected (x : Idx) (o b c d : Byte) :
    ∃ i, decode (contextBytes (selector x) .none o ++ [o, b, c, d]) = .ok i := by
  by_cases h : affected o = true ∨ o = 0xCB#8
  · rw [contextBytes_taken x h]
    exact decode_taken x h b c d
  · obtain ⟨haffected, hcb⟩ := not_or.1 h
    rw [contextBytes_ignored _ hcb (by simpa using haffected)]
    exact decode_four o b c d

/-- Whatever is pending, the bytes at PC hold an instruction (R81, R98). -/
theorem decodeNext_ok (s : State) : ∃ f, s.decodeNext = .ok f := by
  have hdecode : ∃ i, decode (contextBytes s.xySel s.pfx (s.peek s.pc) ++ s.window) = .ok i := by
    unfold State.window
    by_cases hpfx : s.pfx = .none
    · rw [hpfx]
      cases s.xySel with
      | hl => exact decode_four _ _ _ _
      | ix => exact decode_selected .ix _ _ _ _
      | iy => exact decode_selected .iy _ _ _ _
    · obtain ⟨p, q, r, o, hbytes, -⟩ := decode_pending s.xySel (s.peek s.pc) (s.peek s.pc) _ _ _ hpfx
      rw [hbytes]
      exact decode_four p q r o
  obtain ⟨i, hi⟩ := hdecode
  simp only [State.decodeNext, hi]
  exact ⟨_, rfl⟩

/-! ## What a step can answer -/

/-- Settles O49, from the effect of the instruction. -/
theorem everyInstructionCompletes : Obligations.EveryInstructionCompletes := fun i s =>
  have ⟨t, ht, _⟩ := exec_completes s i
  ⟨t, ht⟩

/-- An answer that is no fault, and whose reason is among `P` if it is a refusal. -/
def RefusesOnly (P : Refusal → Prop) : Answer → Prop
  | .next _ => True
  | .fault _ => False
  | .refused q => P q

namespace RefusesOnly

variable {P Q : Refusal → Prop} {x : Answer}

theorem andThen {f : State → Answer} (hx : RefusesOnly P x) (hf : ∀ s, RefusesOnly P (f s)) :
    RefusesOnly P (Machine.andThen x f) := by
  cases x with
  | next s => exact hf s
  | fault _ => exact hx
  | refused _ => exact hx

theorem mono (h : RefusesOnly P x) (hPQ : ∀ q, P q → Q q) : RefusesOnly Q x := by
  cases x with
  | next _ => trivial
  | fault _ => exact h
  | refused q => exact hPQ q h

end RefusesOnly

/-- The refusal that the tests of the budget give (R32). -/
abbrev ForBudget (q : Refusal) : Prop := q = .budgetRange

/-- Any reason to refuse. -/
abbrev ForAny (_ : Refusal) : Prop := True

theorem checkBudget_refusesOnly (s : State) : RefusesOnly ForBudget (checkBudget s) := by
  unfold checkBudget
  split <;> simp [RefusesOnly]

theorem finish_refusesOnly (i : Instr) (s : State) : RefusesOnly ForBudget (finish i s) := by
  unfold finish
  split
  · trivial
  · exact checkBudget_refusesOnly _

/-- An instruction is decoded and completes; its end tests the budget (R32). -/
theorem instrStep_refusesOnly (s : State) : RefusesOnly ForBudget s.instrStep := by
  obtain ⟨f, hf⟩ := decodeNext_ok s
  obtain ⟨t, ht⟩ := everyInstructionCompletes f.instr (s.afterFetch f)
  rw [State.instrStep, hf]
  show RefusesOnly ForBudget (andThen (exec f.instr (s.afterFetch f)) (finish f.instr))
  rw [ht]
  exact finish_refusesOnly f.instr t

theorem acceptIrq_refusesOnly (s : State) : RefusesOnly ForAny s.acceptIrq := by
  unfold State.acceptIrq
  split
  case h_4 =>
    dsimp only
    split <;> trivial
  all_goals trivial

theorem intCheck_refusesOnly (s : State) : RefusesOnly ForAny s.intCheck := by
  unfold State.intCheck
  split
  · trivial
  · split
    · exact acceptIrq_refusesOnly s
    · trivial

theorem checkBudget_refusesAny (s : State) : RefusesOnly ForAny (checkBudget s) :=
  (checkBudget_refusesOnly s).mono fun _ _ => trivial

theorem perform_refusesOnly (s : State) (act : HostAct) : RefusesOnly ForAny (s.perform act) := by
  cases act with
  | run allowance =>
    exact ((checkBudget_refusesAny _).andThen intCheck_refusesOnly).andThen checkBudget_refusesAny
  | registerRegion =>
    show RefusesOnly ForAny (s.addRegion _ _ _ _)
    unfold State.addRegion
    split <;> trivial
  | setIm mode =>
    show RefusesOnly ForAny (s.putIm mode)
    unfold State.putIm
    split <;> trivial
  | setBudget v => exact checkBudget_refusesAny _
  | _ => trivial

theorem hostStep_refusesOnly (s : State) : RefusesOnly ForAny s.hostStep := by
  unfold State.hostStep
  split <;> exact perform_refusesOnly _ _

/-! ## A step inside a run -/

/-- `run` returns (R237). -/
theorem step_of_not_goesOn {s : State} (hrun : inRun s) (h : s.goesOn = false) : step s = .next s.leaveRun := by
  have hstep : s.runStep = .next s.leaveRun := by simp [State.runStep, h]
  unfold step
  cases hphase : s.phase with
  | idle => exact absurd hphase hrun
  | budgeted => exact hstep
  | untilHalt => exact hstep

theorem step_refusesOnly_of_inRun {s : State} (hrun : inRun s) : RefusesOnly ForBudget (step s) := by
  cases hgoes : s.goesOn with
  | true => exact step_of_goesOn hrun hgoes ▸ instrStep_refusesOnly s
  | false => exact step_of_not_goesOn hrun hgoes ▸ trivial

theorem step_refusesOnly (s : State) : RefusesOnly ForAny (step s) := by
  by_cases hphase : s.phase = .idle
  · have hstep : step s = s.hostStep := by simp only [step, hphase]
    exact hstep ▸ hostStep_refusesOnly s
  · exact (step_refusesOnly_of_inRun hphase).mono fun _ _ => trivial

/-- Settles O50: what a step answers is no fault, and inside a run only the budget's tests refuse. -/
theorem stepNeverFaults : Obligations.StepNeverFaults := by
  refine ⟨fun s q h => ?_, fun s q hrun h => ?_⟩
  · have hstep := step_refusesOnly s
    rwa [h] at hstep
  · have hstep := step_refusesOnly_of_inRun hrun
    rwa [h] at hstep

/-- An instruction keeps the mode of the run (R237). -/
theorem instrStep_phase {s t : State} (h : s.instrStep = .next t) : t.phase = s.phase := by
  obtain ⟨f, u, -, hu, ht⟩ := instrStep_next h
  obtain ⟨-, -, -, -, hfetch⟩ := afterFetch_keeps s f
  obtain ⟨-, -, -, -, -, hexec, -⟩ := whoWritesControlState _ _ _ hu
  have hphase : u.phase = s.phase := hexec.trans hfetch
  rcases finish_next ht with ⟨-, rfl⟩ | ⟨-, rfl, -⟩
  · exact hphase
  · exact hphase

/-- Settles O11: whether the loop goes on is one test, and a step that goes on keeps the phase. -/
theorem runReturns : Obligations.RunReturns := by
  intro s hrun
  have hstays (hgoes : s.goesOn = true) (t : State) (h : step s = .next t) : t.phase = s.phase :=
    instrStep_phase ((step_of_goesOn hrun hgoes).symm.trans h)
  refine ⟨fun hmid => ⟨fun hhalted => ?_, fun hhalted hphase hb => ?_, fun hhalted hloop => ?_⟩, fun hmid => ?_⟩
  · rw [step_of_not_goesOn hrun (by simp [State.goesOn, hmid, hhalted]), State.leaveRun, if_pos hhalted]
  · have hspent : s.goesOn = false := by simp [State.goesOn, hmid, hphase, Int.not_lt.2 hb]
    rw [step_of_not_goesOn hrun hspent, State.leaveRun, if_neg (by simp [hhalted])]
  · exact hstays (by simp [State.goesOn, hhalted, hloop])
  · exact hstays (by simp [State.goesOn, hmid])

/-- Settles O10: each step is a DD or FD byte of its own, whatever register was selected before. -/
theorem endlessPrefixesNeverEnd : Obligations.EndlessPrefixesNeverEnd := by
  intro s hrun hpfx hon hbytes
  obtain ⟨x, hx⟩ : ∃ x, s.peek s.pc = prefixByte x := (hbytes s.pc).elim (⟨.ix, ·⟩) (⟨.iy, ·⟩)
  obtain ⟨step_alone, -⟩ := indexPrefixSteps
  have hstep := step_alone s x hrun hpfx hon hx ((hbytes (s.pc + 1)).imp_right .inl)
  refine ⟨_, hstep, hrun, hpfx, ?_, rfl, State.peek_congr rfl rfl rfl⟩
  cases x <;> simp [State.midInstr, selector]

/-! ## Between runs -/

theorem checkBudget_eq (t : State) : checkBudget t =
    if -2147483648 ≤ t.budget ∧ t.budget ≤ 2147483647 then .next t else .refused .budgetRange := by
  simp [checkBudget, budgetInRange]

/-- Settles O12: the entry of `run` is the budget's test, the interrupt check and the test again. -/
theorem runEntryOrder : Obligations.RunEntryOrder := by
  refine ⟨?_, fun s hidle hhost => ?_⟩
  · intro s n acts hidle hhost e
    have hentry : { s with host := acts }.addAllowance n = e := by
      unfold State.addAllowance
      split <;> simp [e, State.atBoundary, *]
    have hstep : step s = andThen (andThen (checkBudget e) State.intCheck) checkBudget := by
      rw [← hentry]
      simp only [step, hidle, State.hostStep, hhost]
      rfl
    refine ⟨fun hb => ?_, fun hb => ?_⟩
    · rw [hstep, checkBudget_inRange (Stepping.budgetInRange_iff.2 hb)]
      show andThen e.intCheck checkBudget = _
      cases e.intCheck with
      | next t => exact checkBudget_eq t
      | fault q => rfl
      | refused q => rfl
    · rw [hstep, HostActs.checkBudget_of_not_inRange hb]
      rfl
  · have hs : { s with host := [] } = s := by rw [← hhost]
    have hrun : step { s with host := [.run (BitVec.ofInt 32 (-1))] } = { s with host := [] }.perform defaultAct :=
      HostActs.step_of_idle hidle _ _
    rw [hrun, hs]
    simp only [step, hidle, State.hostStep, hhost]

/-- Settles O54: the act is one update. -/
theorem resetAct : Obligations.ResetAct := by
  intro s acts hidle hhost
  simp only [step, hidle, State.hostStep, hhost]
  rfl

end Sys2Proof.RunLoop
end

section
/-! PROOFS. O51 and O52: interrupts. Every acceptance is one entry sequence (`acceptEntry_eq_entered`), run after the flip-flops
and the pending flag are written and, with the hardware's vectors, after the data-bus byte is drawn. -/

namespace Sys2Proof.Interrupts

open Sys2Proof.Machine Sys2Proof.Claims Sys2Proof.HostActs Sys2Proof.Operands Sys2Proof.Loads Sys2Proof.MemoryStores

/-- The entry sequence of every interrupt: R counts, PC is pushed, the cost is charged (R229). -/
theorem acceptEntry_eq_entered (s : State) (kind : IntKind) :
    s.acceptEntry kind = entered s (s.push16 s.pc).mem (acceptCost s.params.intAcceptCost kind) := by
  have hpush := write16_frame { s.incR 1 with sp := s.sp - 2 } (s.sp - 2) s.pc
  have hentry : s.acceptEntry kind = { ({ s.incR 1 with sp := s.sp - 2 }.write16 (s.sp - 2) s.pc) with
    halted := false, budget := s.budget - acceptCost s.params.intAcceptCost kind } := rfl
  rw [hentry, hpush, State.incR, Fetching.countR_eq_countedR]
  rfl

theorem storedWord_pushedPc (s : State) (hwf : Memory.wf s.mem = true) :
    StoredWord s (s.push16 s.pc).mem (s.sp - 2) s.pc :=
  storedWord_write16 { s with sp := s.sp - 2 } (s.sp - 2) s.pc hwf

/-- Settles O51: the flip-flops are set, then the entry sequence runs. -/
theorem nmiAcceptance : Obligations.NmiAcceptance := by
  intro s hpending hwf
  refine ⟨_, storedWord_pushedPc s hwf, ?_⟩
  rw [State.intCheck, if_pos hpending, State.accept, acceptEntry_eq_entered]
  rfl

/-! ## A maskable interrupt (R231) -/

theorem intCheck_of_noInterrupt {s : State} (h : NoInterrupt s) : s.intCheck = .next s := by
  obtain ⟨hnmi, hirq⟩ := h
  rcases hirq with hirq | hiff <;> simp [State.intCheck, *]

theorem intCheck_of_irqNext {s : State} (h : IrqNext s) : s.intCheck = s.acceptIrq := by
  obtain ⟨hnmi, hirq, hiff⟩ := h
  simp [State.intCheck, hnmi, hirq, hiff]

theorem accept_takeIrq (s : State) (kind : IntKind) (target : Word) :
    s.takeIrq.accept kind target =
      { irqTaken (entered s (s.push16 s.pc).mem (acceptCost s.params.intAcceptCost kind)) with pc := target } := by
  rw [State.accept, acceptEntry_eq_entered]
  rfl

/-! ## The hardware's vectors (R232) -/

theorem drawn_takeIrq (s : State) : s.takeIrq.drawn = (drew s).1 := by
  rw [drew_eq]
  rfl

theorem afterDraw_takeIrq (s : State) : s.takeIrq.afterDraw = irqTaken (drew s).2 := by
  simp only [State.afterDraw, State.takeIrq, drew]
  cases s.inputs <;> rfl

/-- A draw changes nothing that the entry sequence reads. -/
theorem acceptEntry_afterDraw (s : State) (kind : IntKind) :
    s.takeIrq.afterDraw.acceptEntry kind =
      irqTaken (entered (drew s).2 (s.push16 s.pc).mem (acceptCost s.params.intAcceptCost kind)) := by
  rw [afterDraw_takeIrq, acceptEntry_eq_entered, drew_eq, State.afterDraw_frame]
  rfl

theorem zext_eq_ofNat (v : Byte) : zext v = BitVec.ofNat 16 v.toNat := by
  apply BitVec.eq_of_toNat_eq
  simp [zext]

/-- In mode 0 with the hardware's data-bus byte (R232). -/
theorem acceptIrq_im0_hardware {s : State} (him : s.im = .im0) (hvec : s.params.intVectorModel = .hardware) :
    s.acceptIrq = if (drew s).1 &&& 0xC7#8 = 0xC7#8
      then .next { irqTaken (entered (drew s).2 (s.push16 s.pc).mem s.params.intAcceptCost.im0) with
        pc := BitVec.ofNat 16 ((drew s).1 &&& 0x38#8).toNat }
      else .refused .im0NotRst := by
  simp only [State.acceptIrq, him, hvec, drawn_takeIrq, isRst, beq_iff_eq, State.accept, acceptEntry_afterDraw,
    zext_eq_ofNat]
  rfl

/-- In mode 2 with the hardware's table: its word is read after the push (R232). -/
theorem acceptIrq_im2_hardware {s : State} (him : s.im = .im2) (hvec : s.params.intVectorModel = .hardware) :
    let t := irqTaken (entered (drew s).2 (s.push16 s.pc).mem s.params.intAcceptCost.im2)
    let a := wordOf s.i (drew s).1
    s.acceptIrq = .next { t with pc := word t a, bus := readWord t a } := by
  simp only [State.acceptIrq, him, hvec, drawn_takeIrq, State.acceptVectored, acceptEntry_afterDraw, mkWord_eq_wordOf,
    peek16_eq_word]
  rfl

/-- Settles O52: one entry sequence, to the target of the mode. -/
theorem irqAcceptance : Obligations.IrqAcceptance := by
  refine fun s => ⟨intCheck_of_noInterrupt, fun hnext hwf => ⟨_, storedWord_pushedPc s hwf, ?_⟩⟩
  rw [intCheck_of_irqNext hnext]
  exact ⟨fun him => by simp [State.acceptIrq, him, accept_takeIrq, acceptCost, im1Target],
    fun hvec him => by simp [State.acceptIrq, him, hvec, accept_takeIrq, acceptCost, mkWord_eq_wordOf],
    fun hvec him => by simp [State.acceptIrq, him, hvec, accept_takeIrq, acceptCost, mkWord_eq_wordOf],
    fun hvec him => acceptIrq_im0_hardware him hvec, fun hvec him => acceptIrq_im2_hardware him hvec⟩

end Sys2Proof.Interrupts
end
